-- ==== Sys2Proof/Word.lean ====
section
/-! DEFINITION. The machine word of the RCD: every host register, and a command, is one 32-bit word
(spec/20_memory.md R50, spec/30_encoding.md R80). -/

namespace Sys2Proof

/-- A register of the host window, or a command word: 32 bits, bit 0 the least significant (R9, R52). -/
abbrev Word := BitVec 32

end Sys2Proof
end

