-- ==== Sys2Proof/Syntax.lean ====
section
/-! DEFINITION. The commands of the RCD, one constructor per row of spec/opcode_table.json, with the raw
operand fields of the command word (spec/30_encoding.md R70, R71). -/

namespace Sys2Proof

/-- A command. `maxN` is the field MAXN (unsigned), `nC` the field NC (two's complement), `cat` the field CAT.
Whether the operand values are legal is not part of the syntax: the RCD checks it at acceptance (R78). -/
inductive Instr where
  /-- `CAVLC_BLOCK maxN, nC` (R100). -/
  | cavlcBlock (maxN : BitVec 7) (nC : BitVec 6)
  /-- `CABAC_BLOCK maxN, cat` (R150). -/
  | cabacBlock (maxN : BitVec 7) (cat : BitVec 3)
  /-- `ZERO_BLOCK maxN` (R180). -/
  | zeroBlock (maxN : BitVec 7)
  deriving DecidableEq, Repr

end Sys2Proof
end

