-- ==== Sys2Proof/Machine/Operands.lean ====
section
/-! DEFINITION. The operand forms of the three commands: which operand values the RCD accepts
(spec/30_encoding.md R74 to R77), and the field positions of the command word (R70). -/

namespace Sys2Proof.Machine

/-- The field OP of a command word (R70). -/
def opField (w : Word) : BitVec 4 := w.extractLsb' 0 4

/-- The field MAXN of a command word (R70, R74). -/
def maxNField (w : Word) : BitVec 7 := w.extractLsb' 4 7

/-- The field NC of a command word, read as two's complement (R70, R74). -/
def nCField (w : Word) : BitVec 6 := w.extractLsb' 11 6

/-- The field CAT of a command word (R70, R74). -/
def catField (w : Word) : BitVec 3 := w.extractLsb' 17 3

/-- The reserved field of a command word, which must be 0 (R70, R73). -/
def reservedField (w : Word) : BitVec 12 := w.extractLsb' 20 12

/-- The legal pairs of CAVLC_BLOCK: (4, -1), (8, -2), and 15 or 16 with nC from 0 to 31 (R75). -/
def cavlcLegal (maxN : BitVec 7) (nC : BitVec 6) : Bool :=
  (maxN.toNat == 4 && nC.toInt == -1) || (maxN.toNat == 8 && nC.toInt == -2) ||
  ((maxN.toNat == 15 || maxN.toNat == 16) && decide (0 ≤ nC.toInt))

/-- The legal block sizes of CABAC_BLOCK (R76); every CAT is legal. -/
def cabacLegal (maxN : BitVec 7) : Bool :=
  maxN.toNat == 4 || maxN.toNat == 8 || maxN.toNat == 15 || maxN.toNat == 16 || maxN.toNat == 64

/-- The legal block sizes of ZERO_BLOCK: 1 to 64 (R77). -/
def zeroLegal (maxN : BitVec 7) : Bool :=
  decide (1 ≤ maxN.toNat) && decide (maxN.toNat ≤ 64)

end Sys2Proof.Machine
end

