-- ==== Sys2Proof/WellFormed.lean ====
section
/-! DEFINITION. A command is well formed when its operands are ones the RCD accepts (spec/30_encoding.md
R75 to R77). An ill-formed command is still a command: running it raises ILLEGAL_OPERAND. -/

namespace Sys2Proof

/-- The operands of the command are legal. -/
def Instr.wellFormed : Instr → Bool
  | .cavlcBlock maxN nC => Machine.cavlcLegal maxN nC
  | .cabacBlock maxN _ => Machine.cabacLegal maxN
  | .zeroBlock maxN => Machine.zeroLegal maxN

end Sys2Proof
end

