-- ==== Sys2Proof/Decode.lean ====
section
/-! DEFINITION. The decoder and the encoder of command words (spec/30_encoding.md R70 to R74, R78) and the
assembler lines of R86 and R87. The decoder makes the first two checks of R78; the third, on operand values,
is made by the command's meaning. -/

namespace Sys2Proof

/-- Why a word is no command. Every one of these is ILLEGAL_COMMAND at acceptance (R72, R73). -/
inductive DecodeError where
  /-- OP is 0x0 or 0x4 to 0xF (R72). -/
  | reservedOpcode
  /-- A bit of [31:20] is 1 (R73). -/
  | reservedBits
  /-- CAT is not 0 in CAVLC_BLOCK or ZERO_BLOCK (R73). -/
  | catNotZero
  /-- NC is not 0 in CABAC_BLOCK or ZERO_BLOCK (R73). -/
  | ncNotZero
  deriving DecidableEq, Repr

/-- What a word decodes to: a command, or the reason it is none. -/
inductive Decoded where
  | ok (i : Instr)
  | illegal (e : DecodeError)
  deriving DecidableEq, Repr

/-- The command, if the word is one. -/
def Decoded.instr? : Decoded → Option Instr
  | .ok i => some i
  | .illegal _ => none

/-- The decoder, total on every word: first OP, then the reserved and the unused fields (R78, checks 1 and 2). -/
def decode (w : Word) : Decoded :=
  if Machine.opField w = 1 then
    if Machine.reservedField w ≠ 0 then .illegal .reservedBits
    else if Machine.catField w ≠ 0 then .illegal .catNotZero
    else .ok (.cavlcBlock (Machine.maxNField w) (Machine.nCField w))
  else if Machine.opField w = 2 then
    if Machine.reservedField w ≠ 0 then .illegal .reservedBits
    else if Machine.nCField w ≠ 0 then .illegal .ncNotZero
    else .ok (.cabacBlock (Machine.maxNField w) (Machine.catField w))
  else if Machine.opField w = 3 then
    if Machine.reservedField w ≠ 0 then .illegal .reservedBits
    else if Machine.catField w ≠ 0 then .illegal .catNotZero
    else if Machine.nCField w ≠ 0 then .illegal .ncNotZero
    else .ok (.zeroBlock (Machine.maxNField w))
  else .illegal .reservedOpcode

/-- A command word from its five fields, `rrrrrrrrrrrr ccc nnnnnn mmmmmmm oooo` (R70). -/
def cmd32 (cat : BitVec 3) (nC : BitVec 6) (maxN : BitVec 7) (op : BitVec 4) : Word :=
  0#12 ++ (cat ++ (nC ++ (maxN ++ op)))

/-- The command word of a command: unused and reserved fields 0 (R70, R71, R86). -/
def encode : Instr → Word
  | .cavlcBlock maxN nC => cmd32 0 nC maxN 1
  | .cabacBlock maxN cat => cmd32 cat 0 maxN 2
  | .zeroBlock maxN => cmd32 0 0 maxN 3

/-- The host's view of the decoder: the command in the `nbits` low bits of `w`, all higher bits 0. A command
is one whole 32-bit word, so there is no byte order to apply (R52, R80). -/
def decodeTableWord (nbits w : Nat) : Option Instr :=
  (decode (BitVec.ofNat 32 (w % 2 ^ nbits))).instr?

/-- A line of assembler source: a mnemonic with numbers as operands (R86), or a pseudo-instruction (R87). -/
inductive AsmLine where
  | cavlcBlock (maxn nc : Int)
  | cabacBlock (maxn cat : Int)
  | zeroBlock (maxn : Int)
  | cavlcDc420
  | cavlcDc422
  | cavlc4x4 (nc : Int)
  | cavlcAc (nc : Int)
  | cabac8x8 (cat : Int)
  | zero4x4
  | zeroAc
  deriving DecidableEq, Repr

/-- The assembler's own range checks: `maxn` 0 to 127, `nc` -32 to 31, `cat` 0 to 7 (R86). -/
def asmInRange (lo hi v : Int) : Bool := decide (lo ≤ v) && decide (v ≤ hi)

/-- `CAVLC_BLOCK maxn, nc` assembled, or none where an operand is out of range (R86). -/
def asmCavlc (maxn nc : Int) : Option Instr :=
  if asmInRange 0 127 maxn && asmInRange (-32) 31 nc then
    some (.cavlcBlock (BitVec.ofInt 7 maxn) (BitVec.ofInt 6 nc)) else none

/-- `CABAC_BLOCK maxn, cat` assembled, or none where an operand is out of range (R86). -/
def asmCabac (maxn cat : Int) : Option Instr :=
  if asmInRange 0 127 maxn && asmInRange 0 7 cat then
    some (.cabacBlock (BitVec.ofInt 7 maxn) (BitVec.ofInt 3 cat)) else none

/-- `ZERO_BLOCK maxn` assembled, or none where the operand is out of range (R86). -/
def asmZero (maxn : Int) : Option Instr :=
  if asmInRange 0 127 maxn then some (.zeroBlock (BitVec.ofInt 7 maxn)) else none

/-- The command a line of assembler source stands for; a pseudo-instruction stands for one command (R86, R87). -/
def assemble : AsmLine → Option Instr
  | .cavlcBlock maxn nc => asmCavlc maxn nc
  | .cabacBlock maxn cat => asmCabac maxn cat
  | .zeroBlock maxn => asmZero maxn
  | .cavlcDc420 => asmCavlc 4 (-1)
  | .cavlcDc422 => asmCavlc 8 (-2)
  | .cavlc4x4 nc => asmCavlc 16 nc
  | .cavlcAc nc => asmCavlc 15 nc
  | .cabac8x8 cat => asmCabac 64 cat
  | .zero4x4 => asmZero 16
  | .zeroAc => asmZero 15

end Sys2Proof
end

