-- ==== Sys2Proof/Config.lean ====
section
/-! DEFINITION. What an implementation of the RCD fixes (spec/00_scope.md R8), at the values the spec gives, and
the free values of spec/93_implementation_defined.md section 2. -/

namespace Sys2Proof

/-- `LEVEL_PREFIX_MAX`: the largest level_prefix accepted (R8, R107). DESIGN CHOICE of the spec, log entry 14. -/
def Config.levelPrefixMax : Nat := 31

/-- `EG0_K_MAX`: the largest Exp-Golomb order accepted in a CABAC level suffix (R8, R157). Log entry 14. -/
def Config.eg0KMax : Nat := 29

/-- The constant in the register `ID`: "RCD" and the register map revision 1 (R21). -/
def Config.idValue : Word := 0x52434401#32

/-- A FREE VALUE: the n-th value the spec leaves unspecified (R34, R213, R230, R232; treatment "any value" of U1 to
U4). It has no body, so nothing can be proved about any of its values. Log entry 5. -/
opaque Config.freeWord : Nat → Word

end Sys2Proof
end

