-- ==== Sys2Proof/Machine/State.lean ====
section
/-! DEFINITION. The state of the RCD: the host register window (spec/10_state.md R20 to R34), the internal
registers (R40), the reset input, and the model's own fields that stand for the outside world: the answers of the
two ports, the host accesses still to come, and what the RCD has answered and requested. -/

namespace Sys2Proof.Machine

/-- What a port answers to one request: a bit (or a bin), or end of stream (R55, R58). -/
inductive Answer where
  | bit (b : Bool)
  | eos
  deriving DecidableEq, Repr

/-- The syntax elements of R13, and the command word itself. -/
inductive SyntaxElement where
  | commandWord
  | coeffToken
  | trailingOnesSignFlag
  | levelPrefix
  | levelSuffix
  | totalZeros
  | runBefore
  | codedBlockFlag
  | significantCoeffFlag
  | lastSignificantCoeffFlag
  | coeffAbsLevelMinus1
  | coeffSignFlag
  deriving DecidableEq, Repr

/-- The error codes of R200; "no error" is `STATUS.ERRCODE` 0. -/
inductive ErrorCode where
  | illegalCommand
  | illegalOperand
  | invalidSyntax
  | streamCorrupt
  | endOfStream
  deriving DecidableEq, Repr

/-- The bin request descriptor sent to the CABAC engine (R59), field by field at the widths given there. -/
structure BinRequest where
  se : BitVec 4
  binIdx : BitVec 7
  bypass : Bool
  cat : BitVec 3
  maxN : BitVec 7
  idx : BitVec 6
  gt1 : BitVec 7
  eq1 : BitVec 7
  deriving DecidableEq, Repr

/-- One port transaction: a bit read (R55) or a bin read with its request (R58), and the answer. -/
inductive Transaction where
  | bitRead (a : Answer)
  | binRead (req : BinRequest) (a : Answer)
  deriving DecidableEq, Repr

/-- A host access to the register window: its byte offset from RCD_BASE, in the window of 0x200 bytes, and its
size in bytes (R50, R51). -/
inductive HostAccess where
  | read (off : BitVec 9) (size : Nat)
  | write (off : BitVec 9) (size : Nat) (w : Word)
  deriving DecidableEq, Repr

/-- What a host access is answered: a read's data, a write's acknowledgement, or a bus error (R51, R53). -/
inductive Response where
  | data (w : Word)
  | done
  | busError
  deriving DecidableEq, Repr

/-- One event of the total order of host accesses and RCD steps (R61): a host access, one turn of the RCD's own
internal steps, or the reset input being asserted or released (R230). Log entry 1. -/
inductive Event where
  | host (a : HostAccess)
  | rcd
  | reset (asserted : Bool)
  deriving DecidableEq, Repr

/-- The next algorithm step of the executing command (R37, R40 `phase`). Every phase but `idle` and the three
`…Finish` phases waits for one answer of a port; the others are internal steps with no port transaction (R184). -/
inductive Phase where
  /-- No command executes. -/
  | idle
  /-- A bit of coeff_token (R102). -/
  | coeffToken
  /-- The sign bit of trailing one `i` (R106). -/
  | trailingOne
  /-- A bit of the level_prefix of level `i` (R107). -/
  | levelPrefix
  /-- A bit of the level_suffix of level `i`, `j` bits still to read (R109). -/
  | levelSuffix
  /-- A bit of total_zeros (R112). -/
  | totalZeros
  /-- A bit of the run_before of level `i` (R114). -/
  | runBefore
  /-- All bits are read: scatter and complete (R116, R117). -/
  | cavlcFinish
  /-- The coded_block_flag bin (R151). -/
  | codedBlockFlag
  /-- The significance bin of position `i` (R152). -/
  | significance
  /-- The last bin of position `i` (R153). -/
  | lastFlag
  /-- A prefix bin of the magnitude at position `i` (R156). -/
  | absPrefix
  /-- A bin of the unary part of the magnitude's suffix (R157). -/
  | absUnary
  /-- One of the `k` bins of the magnitude's suffix still to read (R157). -/
  | absBits
  /-- The sign bin of position `i` (R159). -/
  | coeffSign
  /-- All bins are read: zero the positions beyond the last and complete (R154, R162). -/
  | cabacFinish
  /-- ZERO_BLOCK's zero-fill (R180). -/
  | zeroFinish
  deriving DecidableEq, Repr

/-- The internal registers (R40), which the host cannot address. Counters and levels are mathematical integers
(R10); that each fits its width is the invariant `Work.fits` of Safety.lean (log entry 11). `code` is the
partial codeword `w` of R101 and `levelSuffix` the part of level_suffix read so far (R109), log entry 12. -/
structure Work where
  op : BitVec 4
  maxN : BitVec 7
  nC : BitVec 6
  cat : BitVec 3
  phase : Phase
  tc : Nat
  t1 : Nat
  suffixLength : Nat
  levelPrefix : Nat
  levelSuffixSize : Nat
  levelSuffix : Nat
  levelCode : Nat
  levelVal : Vector Int 16
  tz : Nat
  zerosLeft : Nat
  runVal : Vector Nat 16
  coeffNum : Int
  cbf : Bool
  sig : Vector Bool 64
  numCoeff : Nat
  gt1 : Nat
  eq1 : Nat
  absm1 : Nat
  k : Nat
  binIdx : Nat
  sign : Bool
  count : Nat
  i : Nat
  j : Nat
  code : List Bool
  deriving DecidableEq, Repr

/-- The internal registers after reset: the spec leaves them unspecified and no result depends on them (R41).
DESIGN CHOICE, log entry 4. -/
def Work.reset : Work where
  op := 0
  maxN := 0
  nC := 0
  cat := 0
  phase := .idle
  tc := 0
  t1 := 0
  suffixLength := 0
  levelPrefix := 0
  levelSuffixSize := 0
  levelSuffix := 0
  levelCode := 0
  levelVal := Vector.replicate 16 0
  tz := 0
  zerosLeft := 0
  runVal := Vector.replicate 16 0
  coeffNum := 0
  cbf := false
  sig := Vector.replicate 64 false
  numCoeff := 0
  gt1 := 0
  eq1 := 0
  absm1 := 0
  k := 0
  binIdx := 0
  sign := false
  count := 0
  i := 0
  j := 0
  code := []

/-- The state of one RCD. From `ieDone` to `coef`: the host register window (`ID` is a constant, `irq` is
computed). `work`: the internal registers. `inReset`: the reset input. From `bits` on: the model's own fields. -/
structure State where
  /-- `CTRL.IE_DONE` (R22). -/
  ieDone : Bool
  /-- `CTRL.IE_ERR` (R22). -/
  ieErr : Bool
  /-- `STATUS.BUSY` (R23). -/
  busy : Bool
  /-- `STATUS.DONE` (R23). -/
  done : Bool
  /-- `STATUS.ERR` (R23). -/
  err : Bool
  /-- `STATUS.OVR` (R23). -/
  ovr : Bool
  /-- `STATUS.ERRCODE` (R23, R200). -/
  errCode : BitVec 4
  /-- `ERRINFO.ERRSE` (R25). -/
  errSe : BitVec 8
  /-- `ERRINFO.ERRIDX` (R25). -/
  errIdx : BitVec 8
  /-- `CMD`: the last accepted command word (R24). -/
  cmd : Word
  /-- `RES_TC` (R26). -/
  resTc : Word
  /-- `RES_T1` (R27). -/
  resT1 : Word
  /-- `RES_TZ` (R28). -/
  resTz : Word
  /-- `RES_NUMCOEFF` (R29). -/
  resNumCoeff : Word
  /-- `RES_CBF` (R30). -/
  resCbf : Word
  /-- `RES_COUNT` (R31). -/
  resCount : Word
  /-- `COEF[0..63]` (R32). -/
  coef : Vector Word 64
  /-- The internal registers (R40). -/
  work : Work
  /-- The reset input is asserted (R230). -/
  inReset : Bool
  /-- The answers the bit port will give, in order; after the last one it never answers (R57, R251). Log entry 2. -/
  bits : List Answer
  /-- The answers the bin port will give, in order; after the last one it never answers (R58, R251). Log entry 2. -/
  bins : List Answer
  /-- The events still to come, in their total order (R61). Log entry 1. -/
  env : List Event
  /-- The answer to the latest host access, none before the first and while in reset. Log entry 9. -/
  resp : Option Response
  /-- The port transactions made so far, newest first (R184). Log entry 10. -/
  portLog : List Transaction
  /-- How many free values have been drawn. Log entry 5. -/
  draws : Nat
  deriving DecidableEq, Repr

/-- The reasons the machine stops. There is none: every error of the RCD is a state the host can read (R210), a bus
error is an answer to the host (R51), and a port that never answers leaves the RCD BUSY (R251). Nobody raises a
fault; safe. -/
inductive Fault where
  deriving DecidableEq, Repr

/-- The reasons a command has no meaning. -/
inductive Refusal where
  /-- Raised by an arm of `exec` whose command has no meaning yet; no arm raises it. Safe: the model stops. -/
  | notModelled (mnemonic : String)
  deriving DecidableEq, Repr

/-- The RCD right after a hard reset (R230): IDLE, every register but `ID` 0. COEF and the internal registers are
unspecified there; the model takes zero (DESIGN CHOICE, log entries 3 and 4). Nothing is yet to come from outside. -/
def State.reset : State where
  ieDone := false
  ieErr := false
  busy := false
  done := false
  err := false
  ovr := false
  errCode := 0
  errSe := 0
  errIdx := 0
  cmd := 0
  resTc := 0
  resT1 := 0
  resTz := 0
  resNumCoeff := 0
  resCbf := 0
  resCount := 0
  coef := Vector.replicate 64 0
  work := Work.reset
  inReset := false
  bits := []
  bins := []
  env := []
  resp := none
  portLog := []
  draws := 0

end Sys2Proof.Machine
end

