-- ==== Sys2Proof/Machine/Levels.lean ====
section
/-! DEFINITION. The arithmetic of CAVLC levels, on mathematical integers (spec/40_cavlc.md R105, R106, R108 to
R111; spec/00_scope.md R10: `a << n` is `a * 2^n` and `a >> 1` is `floor(a / 2)`). -/

namespace Sys2Proof.Machine

/-- The initial suffixLength (R105). -/
def initialSuffixLength (tc t1 : Nat) : Nat := if 10 < tc ∧ t1 < 3 then 1 else 0

/-- The level of a trailing one: sign bit 0 gives +1, 1 gives -1 (R106). -/
def trailingOneLevel (b : Bool) : Int := if b then -1 else 1

/-- levelSuffixSize (R108). -/
def suffixSize (levelPrefix suffixLength : Nat) : Nat :=
  if levelPrefix = 14 ∧ suffixLength = 0 then 4
  else if 15 ≤ levelPrefix then levelPrefix - 3
  else suffixLength

/-- levelCode with every adjustment; `bias` says that the +2 bias applies, `i = T1` and `T1 < 3` (R109). -/
def levelCodeOf (levelPrefix suffixLength levelSuffix : Nat) (bias : Bool) : Nat :=
  min 15 levelPrefix * 2 ^ suffixLength + levelSuffix
    + (if 15 ≤ levelPrefix ∧ suffixLength = 0 then 15 else 0)
    + (if 16 ≤ levelPrefix then 2 ^ (levelPrefix - 3) - 4096 else 0)
    + (if bias then 2 else 0)

/-- The even/odd levelCode to signed level mapping (R110). -/
def levelOfCode (levelCode : Nat) : Int :=
  if levelCode % 2 = 0 then ((levelCode : Int) + 2) / 2 else (-(levelCode : Int) - 1) / 2

/-- suffixLength after a level: the bump first, then the ratchet, capped at 6 (R111, spec/90_conflicts.md C1). -/
def nextSuffixLength (suffixLength : Nat) (level : Int) : Nat :=
  let bumped := if suffixLength = 0 then 1 else suffixLength
  if 3 * 2 ^ (bumped - 1) < level.natAbs ∧ bumped < 6 then bumped + 1 else bumped

end Sys2Proof.Machine
end

