-- ==== Sys2Proof/Machine/Flags.lean ====
section
/-! DEFINITION. The flags and the words made of fields: `STATUS`, `CTRL`, `ERRINFO`, the interrupt output, and the
numeric codes of syntax elements and errors (spec/00_scope.md R13, spec/10_state.md R22 to R25, R38, R39,
spec/60_exceptions.md R200, R220). -/

namespace Sys2Proof.Machine

/-- The numeric code of a syntax element (R13). -/
def SyntaxElement.code : SyntaxElement → Nat
  | .commandWord => 0
  | .coeffToken => 1
  | .trailingOnesSignFlag => 2
  | .levelPrefix => 3
  | .levelSuffix => 4
  | .totalZeros => 5
  | .runBefore => 6
  | .codedBlockFlag => 8
  | .significantCoeffFlag => 9
  | .lastSignificantCoeffFlag => 10
  | .coeffAbsLevelMinus1 => 11
  | .coeffSignFlag => 12

/-- The value of `STATUS.ERRCODE` for an error (R200). -/
def ErrorCode.code : ErrorCode → BitVec 4
  | .illegalCommand => 1
  | .illegalOperand => 2
  | .invalidSyntax => 3
  | .streamCorrupt => 4
  | .endOfStream => 5

/-- One bit of a register word. -/
def flagBit (b : Bool) : BitVec 1 := BitVec.ofBool b

/-- The register `STATUS` as the host reads it; reserved bits read 0 (R23). -/
def State.statusWord (s : State) : Word :=
  0#20 ++ (s.errCode ++ (0#4 ++ (flagBit s.ovr ++ (flagBit s.err ++ (flagBit s.done ++ flagBit s.busy)))))

/-- The register `CTRL` as the host reads it: `zext_32(IE_ERR || IE_DONE)`; `SRST` reads 0 (R22, R189). -/
def State.ctrlWord (s : State) : Word :=
  0#30 ++ (flagBit s.ieErr ++ flagBit s.ieDone)

/-- The register `ERRINFO` as the host reads it (R25). -/
def State.errInfoWord (s : State) : Word :=
  0#16 ++ (s.errIdx ++ s.errSe)

/-- The interrupt output, a level computed from state at every instant (R39, R220). -/
def State.irq (s : State) : Bool :=
  (s.done && s.ieDone) || (s.err && s.ieErr)

/-- The control states of R35: no command executes and no error is pending. -/
def State.isIdle (s : State) : Bool := !s.busy && !s.err

end Sys2Proof.Machine
end

