-- ==== Sys2Proof/Machine/Ops.lean ====
section
/-! DEFINITION. The named operations every command is written with: writes to COEF, free values, error entry and
the return from it (spec/60_exceptions.md R210 to R214), completion, the two port transactions
(spec/20_memory.md R55, R58, R59), and hard and soft reset (spec/70_reset_and_hazards.md R230, R232). -/

namespace Sys2Proof.Machine

/-- maxNumCoeff of the executing command (R40 `maxN`). -/
def State.maxNum (s : State) : Nat := s.work.maxN.toNat

/-- A signed level as a COEF entry: 32-bit two's complement (R32). -/
def coefWord (v : Int) : Word := BitVec.ofInt 32 v

/-- `for k in lo..hi-1: COEF[k] <- 0`. -/
def zeroRange (lo hi : Nat) (coef : Vector Word 64) : Vector Word 64 :=
  Vector.ofFn fun k => if lo ≤ k.val ∧ k.val < hi then 0 else coef[k]

/-- `COEF[0..n-1] <- unspecified`: a free value for each entry (R213, R230, R232). Log entry 5. -/
def freeCoefs (n : Nat) (s : State) : State :=
  { s with
    coef := Vector.ofFn fun k => if k.val < n then Config.freeWord (s.draws + k.val) else s.coef[k]
    draws := s.draws + 64 }

/-- The result registers other than `RES_COUNT` become unspecified (R213). Log entries 5 and 6. -/
def freeResults (s : State) : State :=
  { s with
    resTc := Config.freeWord s.draws
    resT1 := Config.freeWord (s.draws + 1)
    resTz := Config.freeWord (s.draws + 2)
    resNumCoeff := Config.freeWord (s.draws + 3)
    resCbf := Config.freeWord (s.draws + 4)
    draws := s.draws + 5 }

/-- ERROR ENTRY, the part common to all errors (R210): what is recorded, and the move to the ERROR state. -/
def enterError (code : ErrorCode) (se : SyntaxElement) (idx : Nat) (s : State) : State :=
  { s with
    errSe := BitVec.ofNat 8 se.code
    errIdx := BitVec.ofNat 8 idx
    errCode := code.code
    busy := false
    err := true
    work := { s.work with phase := .idle } }

/-- `raise ERR(code, se, idx)` while decoding (R210, R212, R213): `RES_COUNT` holds what was consumed, the other
results and `COEF[0..maxN-1]` become unspecified. -/
def raiseDecode (code : ErrorCode) (se : SyntaxElement) (idx : Nat) (s : State) : State :=
  enterError code se idx
    (freeCoefs s.maxNum (freeResults { s with resCount := BitVec.ofNat 32 s.work.count }))

/-- `raise ERR(code, 0, 0)` at acceptance (R182, R211): `RES_COUNT` is 0, no other result and no COEF changes. -/
def raiseCommand (code : ErrorCode) (s : State) : State :=
  enterError code .commandWord 0 { s with resCount := 0 }

/-- RETURN from the ERROR state to IDLE by a write of 1 to `STATUS.ERR` (R187, R214). -/
def clearError (s : State) : State :=
  { s with err := false, errCode := 0, errSe := 0, errIdx := 0 }

/-- COMPLETION without error (R117, R162, R180, R185): every result register, then BUSY and DONE. -/
def complete (tc t1 tz numCoeff : Nat) (cbf : Bool) (s : State) : State :=
  { s with
    resTc := BitVec.ofNat 32 tc
    resT1 := BitVec.ofNat 32 t1
    resTz := BitVec.ofNat 32 tz
    resNumCoeff := BitVec.ofNat 32 numCoeff
    resCbf := if cbf then 1 else 0
    resCount := BitVec.ofNat 32 s.work.count
    busy := false
    done := true
    work := { s.work with phase := .idle } }

/-- `BitRead1()` (R12, R55), in the syntax element `se` with index `idx`: an answer 0 or 1 is counted and `k`
goes on with it; EOS raises END_OF_STREAM; while the port does not answer, nothing happens. -/
def bitRead (se : SyntaxElement) (idx : Nat) (k : Bool → State → State) (s : State) : State :=
  match s.bits with
  | [] => s
  | .eos :: rest =>
    raiseDecode .endOfStream se idx { s with bits := rest, portLog := .bitRead .eos :: s.portLog }
  | .bit b :: rest =>
    k b { s with
      bits := rest
      portLog := .bitRead (.bit b) :: s.portLog
      work := { s.work with count := s.work.count + 1 } }

/-- The request descriptor of a bin (R59): the counters are sent with coeff_abs_level_minus1 bins only. -/
def binRequest (se : SyntaxElement) (binIdx : Nat) (bypass : Bool) (idx : Nat) (s : State) : BinRequest where
  se := BitVec.ofNat 4 se.code
  binIdx := BitVec.ofNat 7 binIdx
  bypass := bypass
  cat := s.work.cat
  maxN := s.work.maxN
  idx := BitVec.ofNat 6 idx
  gt1 := if se = .coeffAbsLevelMinus1 then BitVec.ofNat 7 s.work.gt1 else 0
  eq1 := if se = .coeffAbsLevelMinus1 then BitVec.ofNat 7 s.work.eq1 else 0

/-- `BinRead(SE, BINIDX, BYPASS, IDX)` (R12, R58), with the same three outcomes as `bitRead`. -/
def binRead (se : SyntaxElement) (binIdx : Nat) (bypass : Bool) (idx : Nat) (k : Bool → State → State)
    (s : State) : State :=
  match s.bins with
  | [] => s
  | .eos :: rest =>
    raiseDecode .endOfStream se idx
      { s with bins := rest, portLog := .binRead (binRequest se binIdx bypass idx s) .eos :: s.portLog }
  | .bit b :: rest =>
    k b { s with
      bins := rest
      portLog := .binRead (binRequest se binIdx bypass idx s) (.bit b) :: s.portLog
      work := { s.work with count := s.work.count + 1 } }

/-- `STATUS <- 0`, `ERRINFO <- 0`, `CMD <- 0`, every result register 0, no command in progress (R230, R232). -/
def clearRegisters (s : State) : State :=
  { s with
    busy := false, done := false, err := false, ovr := false, errCode := 0, errSe := 0, errIdx := 0, cmd := 0
    resTc := 0, resT1 := 0, resTz := 0, resNumCoeff := 0, resCbf := 0, resCount := 0
    work := { s.work with phase := .idle } }

/-- SOFT RESET (R232): an executing command is abandoned and its COEF entries become unspecified. -/
def softReset (s : State) : State :=
  clearRegisters (if s.busy then freeCoefs s.maxNum s else s)

/-- HARD RESET being asserted (R230): every register at its reset value, every COEF entry unspecified. -/
def assertReset (s : State) : State :=
  { freeCoefs 64 (clearRegisters s) with ieDone := false, ieErr := false, inReset := true, resp := none }

/-- The reset input released: the RCD leaves reset in the IDLE state (R230). -/
def releaseReset (s : State) : State :=
  { s with inReset := false }

end Sys2Proof.Machine
end

