-- ==== Sys2Proof/Machine/Tables.lean ====
section
/-! DEFINITION. The CAVLC code tables, transcribed from spec/41_cavlc_tables.md R140 to R144, and the choice of the
table for each syntax element (spec/40_cavlc.md R102, R112, R114). A codeword reads as in the spec:
`cw 6 0b000101` is the 6 bits `000101`, first bit leftmost (R56). Log entry 14. -/

namespace Sys2Proof.Machine

/-- A prefix-free code: its codewords, each with the value it stands for. -/
abbrev VlcTable (α : Type) := List (List Bool × α)

/-- The codeword of `len` bits whose bits, first bit the most significant, are the number `value` (R56). -/
def cw (len value : Nat) : List Bool := (List.range len).map fun j => value.testBit (len - 1 - j)

/-- Column A of coeff_token, `0 ≤ nC < 2` (R140). -/
def coeffTokenA : VlcTable (Nat × Nat) :=
  [(cw 1 0b1, (0, 0)),
   (cw 6 0b000101, (1, 0)),
   (cw 2 0b01, (1, 1)),
   (cw 8 0b00000111, (2, 0)),
   (cw 6 0b000100, (2, 1)),
   (cw 3 0b001, (2, 2)),
   (cw 9 0b000000111, (3, 0)),
   (cw 8 0b00000110, (3, 1)),
   (cw 7 0b0000101, (3, 2)),
   (cw 5 0b00011, (3, 3)),
   (cw 10 0b0000000111, (4, 0)),
   (cw 9 0b000000110, (4, 1)),
   (cw 8 0b00000101, (4, 2)),
   (cw 6 0b000011, (4, 3)),
   (cw 11 0b00000000111, (5, 0)),
   (cw 10 0b0000000110, (5, 1))] ++
  [(cw 9 0b000000101, (5, 2)),
   (cw 7 0b0000100, (5, 3)),
   (cw 13 0b0000000001111, (6, 0)),
   (cw 11 0b00000000110, (6, 1)),
   (cw 10 0b0000000101, (6, 2)),
   (cw 8 0b00000100, (6, 3)),
   (cw 13 0b0000000001011, (7, 0)),
   (cw 13 0b0000000001110, (7, 1)),
   (cw 11 0b00000000101, (7, 2)),
   (cw 9 0b000000100, (7, 3)),
   (cw 13 0b0000000001000, (8, 0)),
   (cw 13 0b0000000001010, (8, 1)),
   (cw 13 0b0000000001101, (8, 2)),
   (cw 10 0b0000000100, (8, 3)),
   (cw 14 0b00000000001111, (9, 0)),
   (cw 14 0b00000000001110, (9, 1))] ++
  [(cw 13 0b0000000001001, (9, 2)),
   (cw 11 0b00000000100, (9, 3)),
   (cw 14 0b00000000001011, (10, 0)),
   (cw 14 0b00000000001010, (10, 1)),
   (cw 14 0b00000000001101, (10, 2)),
   (cw 13 0b0000000001100, (10, 3)),
   (cw 15 0b000000000001111, (11, 0)),
   (cw 15 0b000000000001110, (11, 1)),
   (cw 14 0b00000000001001, (11, 2)),
   (cw 14 0b00000000001100, (11, 3)),
   (cw 15 0b000000000001011, (12, 0)),
   (cw 15 0b000000000001010, (12, 1)),
   (cw 15 0b000000000001101, (12, 2)),
   (cw 14 0b00000000001000, (12, 3)),
   (cw 16 0b0000000000001111, (13, 0)),
   (cw 15 0b000000000000001, (13, 1))] ++
  [(cw 15 0b000000000001001, (13, 2)),
   (cw 15 0b000000000001100, (13, 3)),
   (cw 16 0b0000000000001011, (14, 0)),
   (cw 16 0b0000000000001110, (14, 1)),
   (cw 16 0b0000000000001101, (14, 2)),
   (cw 15 0b000000000001000, (14, 3)),
   (cw 16 0b0000000000000111, (15, 0)),
   (cw 16 0b0000000000001010, (15, 1)),
   (cw 16 0b0000000000001001, (15, 2)),
   (cw 16 0b0000000000001100, (15, 3)),
   (cw 16 0b0000000000000100, (16, 0)),
   (cw 16 0b0000000000000110, (16, 1)),
   (cw 16 0b0000000000000101, (16, 2)),
   (cw 16 0b0000000000001000, (16, 3))]

/-- Column B of coeff_token, `2 ≤ nC < 4` (R140). -/
def coeffTokenB : VlcTable (Nat × Nat) :=
  [(cw 2 0b11, (0, 0)),
   (cw 6 0b001011, (1, 0)),
   (cw 2 0b10, (1, 1)),
   (cw 6 0b000111, (2, 0)),
   (cw 5 0b00111, (2, 1)),
   (cw 3 0b011, (2, 2)),
   (cw 7 0b0000111, (3, 0)),
   (cw 6 0b001010, (3, 1)),
   (cw 6 0b001001, (3, 2)),
   (cw 4 0b0101, (3, 3)),
   (cw 8 0b00000111, (4, 0)),
   (cw 6 0b000110, (4, 1)),
   (cw 6 0b000101, (4, 2)),
   (cw 4 0b0100, (4, 3)),
   (cw 8 0b00000100, (5, 0)),
   (cw 7 0b0000110, (5, 1))] ++
  [(cw 7 0b0000101, (5, 2)),
   (cw 5 0b00110, (5, 3)),
   (cw 9 0b000000111, (6, 0)),
   (cw 8 0b00000110, (6, 1)),
   (cw 8 0b00000101, (6, 2)),
   (cw 6 0b001000, (6, 3)),
   (cw 11 0b00000001111, (7, 0)),
   (cw 9 0b000000110, (7, 1)),
   (cw 9 0b000000101, (7, 2)),
   (cw 6 0b000100, (7, 3)),
   (cw 11 0b00000001011, (8, 0)),
   (cw 11 0b00000001110, (8, 1)),
   (cw 11 0b00000001101, (8, 2)),
   (cw 7 0b0000100, (8, 3)),
   (cw 12 0b000000001111, (9, 0)),
   (cw 11 0b00000001010, (9, 1))] ++
  [(cw 11 0b00000001001, (9, 2)),
   (cw 9 0b000000100, (9, 3)),
   (cw 12 0b000000001011, (10, 0)),
   (cw 12 0b000000001110, (10, 1)),
   (cw 12 0b000000001101, (10, 2)),
   (cw 11 0b00000001100, (10, 3)),
   (cw 12 0b000000001000, (11, 0)),
   (cw 12 0b000000001010, (11, 1)),
   (cw 12 0b000000001001, (11, 2)),
   (cw 11 0b00000001000, (11, 3)),
   (cw 13 0b0000000001111, (12, 0)),
   (cw 13 0b0000000001110, (12, 1)),
   (cw 13 0b0000000001101, (12, 2)),
   (cw 12 0b000000001100, (12, 3)),
   (cw 13 0b0000000001011, (13, 0)),
   (cw 13 0b0000000001010, (13, 1))] ++
  [(cw 13 0b0000000001001, (13, 2)),
   (cw 13 0b0000000001100, (13, 3)),
   (cw 13 0b0000000000111, (14, 0)),
   (cw 14 0b00000000001011, (14, 1)),
   (cw 13 0b0000000000110, (14, 2)),
   (cw 13 0b0000000001000, (14, 3)),
   (cw 14 0b00000000001001, (15, 0)),
   (cw 14 0b00000000001000, (15, 1)),
   (cw 14 0b00000000001010, (15, 2)),
   (cw 13 0b0000000000001, (15, 3)),
   (cw 14 0b00000000000111, (16, 0)),
   (cw 14 0b00000000000110, (16, 1)),
   (cw 14 0b00000000000101, (16, 2)),
   (cw 14 0b00000000000100, (16, 3))]

/-- Column C of coeff_token, `4 ≤ nC < 8` (R140). -/
def coeffTokenC : VlcTable (Nat × Nat) :=
  [(cw 4 0b1111, (0, 0)),
   (cw 6 0b001111, (1, 0)),
   (cw 4 0b1110, (1, 1)),
   (cw 6 0b001011, (2, 0)),
   (cw 5 0b01111, (2, 1)),
   (cw 4 0b1101, (2, 2)),
   (cw 6 0b001000, (3, 0)),
   (cw 5 0b01100, (3, 1)),
   (cw 5 0b01110, (3, 2)),
   (cw 4 0b1100, (3, 3)),
   (cw 7 0b0001111, (4, 0)),
   (cw 5 0b01010, (4, 1)),
   (cw 5 0b01011, (4, 2)),
   (cw 4 0b1011, (4, 3)),
   (cw 7 0b0001011, (5, 0)),
   (cw 5 0b01000, (5, 1))] ++
  [(cw 5 0b01001, (5, 2)),
   (cw 4 0b1010, (5, 3)),
   (cw 7 0b0001001, (6, 0)),
   (cw 6 0b001110, (6, 1)),
   (cw 6 0b001101, (6, 2)),
   (cw 4 0b1001, (6, 3)),
   (cw 7 0b0001000, (7, 0)),
   (cw 6 0b001010, (7, 1)),
   (cw 6 0b001001, (7, 2)),
   (cw 4 0b1000, (7, 3)),
   (cw 8 0b00001111, (8, 0)),
   (cw 7 0b0001110, (8, 1)),
   (cw 7 0b0001101, (8, 2)),
   (cw 5 0b01101, (8, 3)),
   (cw 8 0b00001011, (9, 0)),
   (cw 8 0b00001110, (9, 1))] ++
  [(cw 7 0b0001010, (9, 2)),
   (cw 6 0b001100, (9, 3)),
   (cw 9 0b000001111, (10, 0)),
   (cw 8 0b00001010, (10, 1)),
   (cw 8 0b00001101, (10, 2)),
   (cw 7 0b0001100, (10, 3)),
   (cw 9 0b000001011, (11, 0)),
   (cw 9 0b000001110, (11, 1)),
   (cw 8 0b00001001, (11, 2)),
   (cw 8 0b00001100, (11, 3)),
   (cw 9 0b000001000, (12, 0)),
   (cw 9 0b000001010, (12, 1)),
   (cw 9 0b000001101, (12, 2)),
   (cw 8 0b00001000, (12, 3)),
   (cw 10 0b0000001101, (13, 0)),
   (cw 9 0b000000111, (13, 1))] ++
  [(cw 9 0b000001001, (13, 2)),
   (cw 9 0b000001100, (13, 3)),
   (cw 10 0b0000001001, (14, 0)),
   (cw 10 0b0000001100, (14, 1)),
   (cw 10 0b0000001011, (14, 2)),
   (cw 10 0b0000001010, (14, 3)),
   (cw 10 0b0000000101, (15, 0)),
   (cw 10 0b0000001000, (15, 1)),
   (cw 10 0b0000000111, (15, 2)),
   (cw 10 0b0000000110, (15, 3)),
   (cw 10 0b0000000001, (16, 0)),
   (cw 10 0b0000000100, (16, 1)),
   (cw 10 0b0000000011, (16, 2)),
   (cw 10 0b0000000010, (16, 3))]

/-- Column D of coeff_token, `8 ≤ nC` (R140). -/
def coeffTokenD : VlcTable (Nat × Nat) :=
  [(cw 6 0b000011, (0, 0)),
   (cw 6 0b000000, (1, 0)),
   (cw 6 0b000001, (1, 1)),
   (cw 6 0b000100, (2, 0)),
   (cw 6 0b000101, (2, 1)),
   (cw 6 0b000110, (2, 2)),
   (cw 6 0b001000, (3, 0)),
   (cw 6 0b001001, (3, 1)),
   (cw 6 0b001010, (3, 2)),
   (cw 6 0b001011, (3, 3)),
   (cw 6 0b001100, (4, 0)),
   (cw 6 0b001101, (4, 1)),
   (cw 6 0b001110, (4, 2)),
   (cw 6 0b001111, (4, 3)),
   (cw 6 0b010000, (5, 0)),
   (cw 6 0b010001, (5, 1))] ++
  [(cw 6 0b010010, (5, 2)),
   (cw 6 0b010011, (5, 3)),
   (cw 6 0b010100, (6, 0)),
   (cw 6 0b010101, (6, 1)),
   (cw 6 0b010110, (6, 2)),
   (cw 6 0b010111, (6, 3)),
   (cw 6 0b011000, (7, 0)),
   (cw 6 0b011001, (7, 1)),
   (cw 6 0b011010, (7, 2)),
   (cw 6 0b011011, (7, 3)),
   (cw 6 0b011100, (8, 0)),
   (cw 6 0b011101, (8, 1)),
   (cw 6 0b011110, (8, 2)),
   (cw 6 0b011111, (8, 3)),
   (cw 6 0b100000, (9, 0)),
   (cw 6 0b100001, (9, 1))] ++
  [(cw 6 0b100010, (9, 2)),
   (cw 6 0b100011, (9, 3)),
   (cw 6 0b100100, (10, 0)),
   (cw 6 0b100101, (10, 1)),
   (cw 6 0b100110, (10, 2)),
   (cw 6 0b100111, (10, 3)),
   (cw 6 0b101000, (11, 0)),
   (cw 6 0b101001, (11, 1)),
   (cw 6 0b101010, (11, 2)),
   (cw 6 0b101011, (11, 3)),
   (cw 6 0b101100, (12, 0)),
   (cw 6 0b101101, (12, 1)),
   (cw 6 0b101110, (12, 2)),
   (cw 6 0b101111, (12, 3)),
   (cw 6 0b110000, (13, 0)),
   (cw 6 0b110001, (13, 1))] ++
  [(cw 6 0b110010, (13, 2)),
   (cw 6 0b110011, (13, 3)),
   (cw 6 0b110100, (14, 0)),
   (cw 6 0b110101, (14, 1)),
   (cw 6 0b110110, (14, 2)),
   (cw 6 0b110111, (14, 3)),
   (cw 6 0b111000, (15, 0)),
   (cw 6 0b111001, (15, 1)),
   (cw 6 0b111010, (15, 2)),
   (cw 6 0b111011, (15, 3)),
   (cw 6 0b111100, (16, 0)),
   (cw 6 0b111101, (16, 1)),
   (cw 6 0b111110, (16, 2)),
   (cw 6 0b111111, (16, 3))]

/-- Column E of coeff_token, `nC = -1`, 4:2:0 chroma DC (R140). -/
def coeffTokenE : VlcTable (Nat × Nat) :=
  [(cw 2 0b01, (0, 0)),
   (cw 6 0b000111, (1, 0)),
   (cw 1 0b1, (1, 1)),
   (cw 6 0b000100, (2, 0)),
   (cw 6 0b000110, (2, 1)),
   (cw 3 0b001, (2, 2)),
   (cw 6 0b000011, (3, 0)),
   (cw 7 0b0000011, (3, 1)),
   (cw 7 0b0000010, (3, 2)),
   (cw 6 0b000101, (3, 3)),
   (cw 6 0b000010, (4, 0)),
   (cw 8 0b00000011, (4, 1)),
   (cw 8 0b00000010, (4, 2)),
   (cw 7 0b0000000, (4, 3))]

/-- Column F of coeff_token, `nC = -2`, 4:2:2 chroma DC (R140). -/
def coeffTokenF : VlcTable (Nat × Nat) :=
  [(cw 1 0b1, (0, 0)),
   (cw 7 0b0001111, (1, 0)),
   (cw 2 0b01, (1, 1)),
   (cw 7 0b0001110, (2, 0)),
   (cw 7 0b0001101, (2, 1)),
   (cw 3 0b001, (2, 2)),
   (cw 9 0b000000111, (3, 0)),
   (cw 7 0b0001100, (3, 1)),
   (cw 7 0b0001011, (3, 2)),
   (cw 5 0b00001, (3, 3)),
   (cw 9 0b000000110, (4, 0)),
   (cw 9 0b000000101, (4, 1)),
   (cw 7 0b0001010, (4, 2)),
   (cw 6 0b000001, (4, 3)),
   (cw 10 0b0000000111, (5, 0)),
   (cw 10 0b0000000110, (5, 1))] ++
  [(cw 9 0b000000100, (5, 2)),
   (cw 7 0b0001001, (5, 3)),
   (cw 11 0b00000000111, (6, 0)),
   (cw 11 0b00000000110, (6, 1)),
   (cw 10 0b0000000101, (6, 2)),
   (cw 7 0b0001000, (6, 3)),
   (cw 12 0b000000000111, (7, 0)),
   (cw 12 0b000000000110, (7, 1)),
   (cw 11 0b00000000101, (7, 2)),
   (cw 10 0b0000000100, (7, 3)),
   (cw 13 0b0000000000111, (8, 0)),
   (cw 12 0b000000000101, (8, 1)),
   (cw 12 0b000000000100, (8, 2)),
   (cw 11 0b00000000100, (8, 3))]

/-- total_zeros of the 4x4 blocks, `maxN` 15 or 16, row `TC` (R141). -/
def totalZeros4x4 : Nat → VlcTable Nat
  | 1 =>
    [(cw 1 0b1, 0), (cw 3 0b011, 1), (cw 3 0b010, 2), (cw 4 0b0011, 3),
     (cw 4 0b0010, 4), (cw 5 0b00011, 5), (cw 5 0b00010, 6), (cw 6 0b000011, 7),
     (cw 6 0b000010, 8), (cw 7 0b0000011, 9), (cw 7 0b0000010, 10), (cw 8 0b00000011, 11),
     (cw 8 0b00000010, 12), (cw 9 0b000000011, 13), (cw 9 0b000000010, 14), (cw 9 0b000000001, 15)]
  | 2 =>
    [(cw 3 0b111, 0), (cw 3 0b110, 1), (cw 3 0b101, 2), (cw 3 0b100, 3),
     (cw 3 0b011, 4), (cw 4 0b0101, 5), (cw 4 0b0100, 6), (cw 4 0b0011, 7),
     (cw 4 0b0010, 8), (cw 5 0b00011, 9), (cw 5 0b00010, 10), (cw 6 0b000011, 11),
     (cw 6 0b000010, 12), (cw 6 0b000001, 13), (cw 6 0b000000, 14)]
  | 3 =>
    [(cw 4 0b0101, 0), (cw 3 0b111, 1), (cw 3 0b110, 2), (cw 3 0b101, 3),
     (cw 4 0b0100, 4), (cw 4 0b0011, 5), (cw 3 0b100, 6), (cw 3 0b011, 7),
     (cw 4 0b0010, 8), (cw 5 0b00011, 9), (cw 5 0b00010, 10), (cw 6 0b000001, 11),
     (cw 5 0b00001, 12), (cw 6 0b000000, 13)]
  | 4 =>
    [(cw 5 0b00011, 0), (cw 3 0b111, 1), (cw 4 0b0101, 2), (cw 4 0b0100, 3),
     (cw 3 0b110, 4), (cw 3 0b101, 5), (cw 3 0b100, 6), (cw 4 0b0011, 7),
     (cw 3 0b011, 8), (cw 4 0b0010, 9), (cw 5 0b00010, 10), (cw 5 0b00001, 11),
     (cw 5 0b00000, 12)]
  | 5 =>
    [(cw 4 0b0101, 0), (cw 4 0b0100, 1), (cw 4 0b0011, 2), (cw 3 0b111, 3),
     (cw 3 0b110, 4), (cw 3 0b101, 5), (cw 3 0b100, 6), (cw 3 0b011, 7),
     (cw 4 0b0010, 8), (cw 5 0b00001, 9), (cw 4 0b0001, 10), (cw 5 0b00000, 11)]
  | 6 =>
    [(cw 6 0b000001, 0), (cw 5 0b00001, 1), (cw 3 0b111, 2), (cw 3 0b110, 3),
     (cw 3 0b101, 4), (cw 3 0b100, 5), (cw 3 0b011, 6), (cw 3 0b010, 7),
     (cw 4 0b0001, 8), (cw 3 0b001, 9), (cw 6 0b000000, 10)]
  | 7 =>
    [(cw 6 0b000001, 0), (cw 5 0b00001, 1), (cw 3 0b101, 2), (cw 3 0b100, 3),
     (cw 3 0b011, 4), (cw 2 0b11, 5), (cw 3 0b010, 6), (cw 4 0b0001, 7),
     (cw 3 0b001, 8), (cw 6 0b000000, 9)]
  | 8 =>
    [(cw 6 0b000001, 0), (cw 4 0b0001, 1), (cw 5 0b00001, 2), (cw 3 0b011, 3),
     (cw 2 0b11, 4), (cw 2 0b10, 5), (cw 3 0b010, 6), (cw 3 0b001, 7),
     (cw 6 0b000000, 8)]
  | 9 =>
    [(cw 6 0b000001, 0), (cw 6 0b000000, 1), (cw 4 0b0001, 2), (cw 2 0b11, 3),
     (cw 2 0b10, 4), (cw 3 0b001, 5), (cw 2 0b01, 6), (cw 5 0b00001, 7)]
  | 10 =>
    [(cw 5 0b00001, 0), (cw 5 0b00000, 1), (cw 3 0b001, 2), (cw 2 0b11, 3),
     (cw 2 0b10, 4), (cw 2 0b01, 5), (cw 4 0b0001, 6)]
  | 11 =>
    [(cw 4 0b0000, 0), (cw 4 0b0001, 1), (cw 3 0b001, 2), (cw 3 0b010, 3),
     (cw 1 0b1, 4), (cw 3 0b011, 5)]
  | 12 =>
    [(cw 4 0b0000, 0), (cw 4 0b0001, 1), (cw 2 0b01, 2), (cw 1 0b1, 3),
     (cw 3 0b001, 4)]
  | 13 =>
    [(cw 3 0b000, 0), (cw 3 0b001, 1), (cw 1 0b1, 2), (cw 2 0b01, 3)]
  | 14 =>
    [(cw 2 0b00, 0), (cw 2 0b01, 1), (cw 1 0b1, 2)]
  | 15 =>
    [(cw 1 0b0, 0), (cw 1 0b1, 1)]
  | _ => []

/-- total_zeros of 4:2:0 chroma DC, `maxN = 4`, row `TC` (R142). -/
def totalZerosDc420 : Nat → VlcTable Nat
  | 1 =>
    [(cw 1 0b1, 0), (cw 2 0b01, 1), (cw 3 0b001, 2), (cw 3 0b000, 3)]
  | 2 =>
    [(cw 1 0b1, 0), (cw 2 0b01, 1), (cw 2 0b00, 2)]
  | 3 =>
    [(cw 1 0b1, 0), (cw 1 0b0, 1)]
  | _ => []

/-- total_zeros of 4:2:2 chroma DC, `maxN = 8`, row `TC` (R143). -/
def totalZerosDc422 : Nat → VlcTable Nat
  | 1 =>
    [(cw 1 0b1, 0), (cw 3 0b010, 1), (cw 3 0b011, 2), (cw 4 0b0010, 3),
     (cw 4 0b0011, 4), (cw 4 0b0001, 5), (cw 5 0b00001, 6), (cw 5 0b00000, 7)]
  | 2 =>
    [(cw 3 0b000, 0), (cw 2 0b01, 1), (cw 3 0b001, 2), (cw 3 0b100, 3),
     (cw 3 0b101, 4), (cw 3 0b110, 5), (cw 3 0b111, 6)]
  | 3 =>
    [(cw 3 0b000, 0), (cw 3 0b001, 1), (cw 2 0b01, 2), (cw 2 0b10, 3),
     (cw 3 0b110, 4), (cw 3 0b111, 5)]
  | 4 =>
    [(cw 3 0b110, 0), (cw 2 0b00, 1), (cw 2 0b01, 2), (cw 2 0b10, 3),
     (cw 3 0b111, 4)]
  | 5 =>
    [(cw 2 0b00, 0), (cw 2 0b01, 1), (cw 2 0b10, 2), (cw 2 0b11, 3)]
  | 6 =>
    [(cw 2 0b00, 0), (cw 2 0b01, 1), (cw 1 0b1, 2)]
  | 7 =>
    [(cw 1 0b0, 0), (cw 1 0b1, 1)]
  | _ => []

/-- run_before, the column `Min(zerosLeft, 7)`; 7 stands for the column `>6` (R144). -/
def runBeforeTable : Nat → VlcTable Nat
  | 1 =>
    [(cw 1 0b1, 0), (cw 1 0b0, 1)]
  | 2 =>
    [(cw 1 0b1, 0), (cw 2 0b01, 1), (cw 2 0b00, 2)]
  | 3 =>
    [(cw 2 0b11, 0), (cw 2 0b10, 1), (cw 2 0b01, 2), (cw 2 0b00, 3)]
  | 4 =>
    [(cw 2 0b11, 0), (cw 2 0b10, 1), (cw 2 0b01, 2), (cw 3 0b001, 3),
     (cw 3 0b000, 4)]
  | 5 =>
    [(cw 2 0b11, 0), (cw 2 0b10, 1), (cw 3 0b011, 2), (cw 3 0b010, 3),
     (cw 3 0b001, 4), (cw 3 0b000, 5)]
  | 6 =>
    [(cw 2 0b11, 0), (cw 3 0b000, 1), (cw 3 0b001, 2), (cw 3 0b011, 3),
     (cw 3 0b010, 4), (cw 3 0b101, 5), (cw 3 0b100, 6)]
  | 7 =>
    [(cw 3 0b111, 0), (cw 3 0b110, 1), (cw 3 0b101, 2), (cw 3 0b100, 3),
     (cw 3 0b011, 4), (cw 3 0b010, 5), (cw 3 0b001, 6), (cw 4 0b0001, 7),
     (cw 5 0b00001, 8), (cw 6 0b000001, 9), (cw 7 0b0000001, 10), (cw 8 0b00000001, 11),
     (cw 9 0b000000001, 12), (cw 10 0b0000000001, 13), (cw 11 0b00000000001, 14)]
  | _ => []

/-- The coeff_token column selected by nC (R102). -/
def coeffTokenTable (nC : Int) : VlcTable (Nat × Nat) :=
  if nC = -1 then coeffTokenE
  else if nC = -2 then coeffTokenF
  else if nC < 2 then coeffTokenA
  else if nC < 4 then coeffTokenB
  else if nC < 8 then coeffTokenC
  else coeffTokenD

/-- The total_zeros table selected by maxN, row TC (R112). -/
def totalZerosTable (maxN tc : Nat) : VlcTable Nat :=
  if maxN = 4 then totalZerosDc420 tc
  else if maxN = 8 then totalZerosDc422 tc
  else totalZeros4x4 tc

/-- How far a bit string is in a code: a whole codeword, the beginning of one, or the beginning of none (R101). -/
inductive VlcMatch (α : Type) where
  | codeword (value : α)
  | unfinished
  | invalid
  deriving DecidableEq, Repr

/-- One turn of the loop of `VlcDecode`: what the bits read so far are in the code (R101). -/
def vlcMatch {α : Type} (T : VlcTable α) (w : List Bool) : VlcMatch α :=
  match T.find? fun row => row.1 == w with
  | some row => .codeword row.2
  | none => if T.any fun row => w.isPrefixOf row.1 then .unfinished else .invalid

end Sys2Proof.Machine
end

