-- ==== Sys2Proof/Machine/CavlcSteps.lean ====
section
/-! DEFINITION. The internal steps of CAVLC_BLOCK (spec/40_cavlc.md R100 to R117): what follows from each answer
of the bit port, up to the next bit the command asks for. -/

namespace Sys2Proof.Machine

/-- `VlcDecode(T, se, idx)` with one more bit (R101): go on with the value of a whole codeword, keep an unfinished one
in `code`, or raise INVALID_SYNTAX. -/
def vlcStep {α : Type} (T : VlcTable α) (se : SyntaxElement) (idx : Nat) (found : α → State → State)
    (b : Bool) (s : State) : State :=
  match vlcMatch T (s.work.code ++ [b]) with
  | .codeword v => found v { s with work := { s.work with code := [] } }
  | .unfinished => { s with work := { s.work with code := s.work.code ++ [b] } }
  | .invalid => raiseDecode .invalidSyntax se idx s

/-- One bit of a codeword of the table `T` (R101). -/
def vlcRead {α : Type} (T : VlcTable α) (se : SyntaxElement) (idx : Nat) (found : α → State → State)
    (s : State) : State :=
  bitRead se idx (vlcStep T se idx found) s

/-- Wait for the next port answer, or take the next internal step, in the given phase. -/
def toPhase (p : Phase) (s : State) : State :=
  { s with work := { s.work with phase := p } }

/-- The runs that need no further bit: 0 while the budget is used up, and the final run is what remains of it
(R114 with `zerosLeft = 0`, R115). -/
def closeRuns (s : State) : State :=
  { s with work := { s.work with
      phase := .cavlcFinish
      runVal := Vector.ofFn fun n =>
        if n.val + 1 = s.work.tc then s.work.zerosLeft
        else if s.work.i ≤ n.val ∧ n.val + 1 < s.work.tc then 0
        else s.work.runVal[n] } }

/-- The head of the loop of `Runs` at level `i`: a run_before is read only for a level but the last, and only while
zeros are left (R114). -/
def nextRun (s : State) : State :=
  if s.work.i + 1 < s.work.tc ∧ 0 < s.work.zerosLeft then
    { s with work := { s.work with phase := .runBefore, code := [] } }
  else closeRuns s

/-- `Runs(TC, tz)` begins (R114). -/
def startRuns (s : State) : State :=
  nextRun { s with work := { s.work with zerosLeft := s.work.tz, i := 0 } }

/-- `TotalZeros(maxN, TC)` begins: no bit is read when every position is occupied (R112). -/
def startTotalZeros (s : State) : State :=
  if s.work.tc < s.maxNum then
    { s with work := { s.work with phase := .totalZeros, code := [] } }
  else startRuns { s with work := { s.work with tz := 0 } }

/-- The head of the level loop of R100 at level `i`. -/
def nextLevel (s : State) : State :=
  if s.work.i < s.work.tc then
    if s.work.i < s.work.t1 then toPhase .trailingOne s
    else { s with work := { s.work with phase := .levelPrefix, levelPrefix := 0 } }
  else startTotalZeros s

/-- After coeff_token: the budget check (R103), the all-zero block (R104), or the levels with their initial
suffixLength (R105). -/
def coeffTokenFound (v : Nat × Nat) (s : State) : State :=
  let s := { s with work := { s.work with tc := v.1, t1 := v.2 } }
  if s.maxNum < v.1 then raiseDecode .streamCorrupt .coeffToken 0 s
  else if v.1 = 0 then { s with work := { s.work with phase := .cavlcFinish, tz := 0 } }
  else nextLevel { s with work := { s.work with suffixLength := initialSuffixLength v.1 v.2, i := 0 } }

/-- One bit of coeff_token, column `nC` (R102). -/
def coeffTokenStep (s : State) : State :=
  vlcRead (coeffTokenTable s.work.nC.toInt) .coeffToken 0 coeffTokenFound s

/-- The sign bit of trailing one `i` (R106). -/
def trailingOneStep (s : State) : State :=
  bitRead .trailingOnesSignFlag s.work.i
    (fun b s => nextLevel { s with work := { s.work with
        levelVal := s.work.levelVal.setIfInBounds s.work.i (trailingOneLevel b)
        i := s.work.i + 1 } }) s

/-- Level `i` from its level_prefix and level_suffix: levelCode, the level, and the next suffixLength
(R109, R110, R111). -/
def finishLevel (s : State) : State :=
  let levelCode := levelCodeOf s.work.levelPrefix s.work.suffixLength s.work.levelSuffix
    (decide (s.work.i = s.work.t1) && decide (s.work.t1 < 3))
  let level := levelOfCode levelCode
  nextLevel { s with work := { s.work with
    levelCode := levelCode
    levelVal := s.work.levelVal.setIfInBounds s.work.i level
    suffixLength := nextSuffixLength s.work.suffixLength level
    i := s.work.i + 1 } }

/-- After level_prefix: the size of level_suffix, which is not read when it is 0 (R108, R109). -/
def startLevelSuffix (s : State) : State :=
  let size := suffixSize s.work.levelPrefix s.work.suffixLength
  let s := { s with work := { s.work with levelSuffixSize := size, levelSuffix := 0, j := size } }
  if 0 < size then toPhase .levelSuffix s else finishLevel s

/-- One bit of level_prefix: a 1 ends it, a 0 is counted, up to LEVEL_PREFIX_MAX (R107). -/
def levelPrefixStep (s : State) : State :=
  bitRead .levelPrefix s.work.i
    (fun b s =>
      if b then startLevelSuffix s
      else
        let s := { s with work := { s.work with levelPrefix := s.work.levelPrefix + 1 } }
        if Config.levelPrefixMax < s.work.levelPrefix then raiseDecode .invalidSyntax .levelPrefix s.work.i s
        else s) s

/-- One bit of level_suffix, the first read the most significant (R109, R12 `BitRead(n)`). -/
def levelSuffixStep (s : State) : State :=
  bitRead .levelSuffix s.work.i
    (fun b s =>
      let s := { s with work := { s.work with
        levelSuffix := 2 * s.work.levelSuffix + b.toNat
        j := s.work.j - 1 } }
      if s.work.j = 0 then finishLevel s else s) s

/-- After total_zeros: the budget check (R113), then the runs. -/
def totalZerosFound (v : Nat) (s : State) : State :=
  let s := { s with work := { s.work with tz := v } }
  if s.maxNum - s.work.tc < v then raiseDecode .streamCorrupt .totalZeros 0 s
  else startRuns s

/-- One bit of total_zeros (R112). -/
def totalZerosStep (s : State) : State :=
  vlcRead (totalZerosTable s.maxNum s.work.tc) .totalZeros 0 totalZerosFound s

/-- After the run_before of level `i`: the budget check, then the next level (R114). -/
def runBeforeFound (v : Nat) (s : State) : State :=
  if s.work.zerosLeft < v then raiseDecode .streamCorrupt .runBefore s.work.i s
  else nextRun { s with work := { s.work with
    runVal := s.work.runVal.setIfInBounds s.work.i v
    zerosLeft := s.work.zerosLeft - v
    i := s.work.i + 1 } }

/-- One bit of the run_before of level `i` (R114). -/
def runBeforeStep (s : State) : State :=
  vlcRead (runBeforeTable (min s.work.zerosLeft 7)) .runBefore s.work.i runBeforeFound s

/-- The walk of the reverse scatter over levels `n-1` down to 0, with the cursor `coeffNum` (R116). -/
def scatterLoop (levelVal : Vector Int 16) (runVal : Vector Nat 16) :
    Nat → Int × Vector Word 64 → Int × Vector Word 64
  | 0, acc => acc
  | n + 1, (coeffNum, coef) =>
    let pos := coeffNum + (runVal.getD n 0 : Nat) + 1
    scatterLoop levelVal runVal n (pos, coef.setIfInBounds pos.toNat (coefWord (levelVal.getD n 0)))

/-- `Scatter(TC)` (R116): zero `COEF[0..maxN-1]`, then place the levels, the last decoded first, from cursor -1. -/
def scatter (s : State) : State :=
  let r := scatterLoop s.work.levelVal s.work.runVal s.work.tc (-1, zeroRange 0 s.maxNum s.coef)
  { s with coef := r.2, work := { s.work with coeffNum := r.1 } }

/-- `Scatter(TC); Complete(TC, T1, tz)`, and `Complete(0, 0, 0)` when `TC = 0` (R104, R116, R117). -/
def cavlcFinishStep (s : State) : State :=
  complete s.work.tc s.work.t1 s.work.tz (if 0 < s.work.tc then s.work.tc + s.work.tz else 0)
    (decide (0 < s.work.tc)) (scatter s)

/-- Execution begins: nothing is read yet (R100, R182). -/
def startCavlc (s : State) : State :=
  { s with work := { s.work with phase := .coeffToken, code := [] } }

end Sys2Proof.Machine
end

