-- ==== Sys2Proof/Machine/CabacSteps.lean ====
section
/-! DEFINITION. The internal steps of CABAC_BLOCK (spec/42_cabac.md R150 to R162): what follows from each answer
of the bin port, up to the next bin the command asks for. -/

namespace Sys2Proof.Machine

/-- The magnitude of the level at position `i` begins (R156). -/
def startMagnitude (s : State) : State :=
  { s with work := { s.work with phase := .absPrefix, absm1 := 0, binIdx := 0 } }

/-- The level walk continues below position `n`: at each position that is not significant COEF is 0, and the next
significant one has its magnitude read (R155). -/
def levelWalk : Nat → State → State
  | 0, s => toPhase .cabacFinish s
  | n + 1, s =>
    if s.work.sig.getD n false then startMagnitude { s with work := { s.work with i := n } }
    else levelWalk n { s with coef := s.coef.setIfInBounds n 0 }

/-- The scan ends: position `numCoeff-1` is significant, those from `numCoeff` to `maxN-1` are not (R154); the level
counters are 0 (R160) and the walk begins at the top (R155). -/
def endScan (s : State) : State :=
  levelWalk s.work.numCoeff { s with work := { s.work with
    sig := Vector.ofFn fun n =>
      if n.val + 1 = s.work.numCoeff then true
      else if s.work.numCoeff ≤ n.val ∧ n.val < s.maxNum then false
      else s.work.sig[n]
    gt1 := 0
    eq1 := 0 } }

/-- The head of the significance scan at position `i` (R152). -/
def nextScan (s : State) : State :=
  if s.work.i + 1 < s.work.numCoeff then toPhase .significance s else endScan s

/-- The significance map begins (R150, R152). -/
def startScan (s : State) : State :=
  nextScan { s with work := { s.work with numCoeff := s.maxNum, i := 0 } }

/-- The coded_block_flag bin; 0 means an all-zero block, completed with `Complete(0, 0, 0)` (R151). -/
def codedBlockFlagStep (s : State) : State :=
  binRead .codedBlockFlag 0 false 0
    (fun b s =>
      let s := { s with work := { s.work with cbf := b } }
      if b then startScan s
      else { s with work := { s.work with
        phase := .cabacFinish
        numCoeff := 0
        sig := Vector.replicate 64 false } }) s

/-- The significance bin of position `i`; a last bin follows a 1 (R152, R153). -/
def significanceStep (s : State) : State :=
  binRead .significantCoeffFlag 0 false s.work.i
    (fun b s =>
      let s := { s with work := { s.work with sig := s.work.sig.setIfInBounds s.work.i b } }
      if b then toPhase .lastFlag s
      else nextScan { s with work := { s.work with i := s.work.i + 1 } }) s

/-- The last bin of position `i`; a 1 fixes `numCoeff` and ends the scan (R153). -/
def lastFlagStep (s : State) : State :=
  binRead .lastSignificantCoeffFlag 0 false s.work.i
    (fun b s => nextScan { s with work := { s.work with
        numCoeff := if b then s.work.i + 1 else s.work.numCoeff
        i := s.work.i + 1 } }) s

/-- A prefix bin of the magnitude: 14 ones at most, ended by a 0 (R156). -/
def absPrefixStep (s : State) : State :=
  binRead .coeffAbsLevelMinus1 s.work.binIdx false s.work.i
    (fun b s =>
      if b then
        let s := { s with work := { s.work with binIdx := s.work.binIdx + 1, absm1 := s.work.absm1 + 1 } }
        if s.work.binIdx < 14 then s
        else { s with work := { s.work with phase := .absUnary, k := 0 } }
      else toPhase .coeffSign s) s

/-- A bin of the unary part of the suffix: a 1 adds `2^k` and raises the order, up to EG0_K_MAX (R157). -/
def absUnaryStep (s : State) : State :=
  binRead .coeffAbsLevelMinus1 s.work.binIdx true s.work.i
    (fun b s =>
      let s := { s with work := { s.work with binIdx := s.work.binIdx + 1 } }
      if b then
        if Config.eg0KMax < s.work.k + 1 then raiseDecode .invalidSyntax .coeffAbsLevelMinus1 s.work.i s
        else { s with work := { s.work with absm1 := s.work.absm1 + 2 ^ s.work.k, k := s.work.k + 1 } }
      else if s.work.k = 0 then toPhase .coeffSign s
      else toPhase .absBits s) s

/-- One of the `k` suffix bins, most significant first (R157). -/
def absBitsStep (s : State) : State :=
  binRead .coeffAbsLevelMinus1 s.work.binIdx true s.work.i
    (fun b s =>
      let s := { s with work := { s.work with
        k := s.work.k - 1
        binIdx := s.work.binIdx + 1
        absm1 := s.work.absm1 + b.toNat * 2 ^ (s.work.k - 1) } }
      if s.work.k = 0 then toPhase .coeffSign s else s) s

/-- The level from its magnitude minus one and its sign: `(absm1 + 1) * (1 - 2*sign)` (R159). -/
def signedLevel (absm1 : Nat) (sign : Bool) : Int :=
  if sign then -((absm1 : Int) + 1) else (absm1 : Int) + 1

/-- The sign bin of position `i`: the level is written, the counters of R160 move, and the walk goes on below. -/
def coeffSignStep (s : State) : State :=
  binRead .coeffSignFlag 0 true s.work.i
    (fun b s => levelWalk s.work.i { s with
        coef := s.coef.setIfInBounds s.work.i (coefWord (signedLevel s.work.absm1 b))
        work := { s.work with
          sign := b
          eq1 := if s.work.absm1 = 0 then s.work.eq1 + 1 else s.work.eq1
          gt1 := if s.work.absm1 = 0 then s.work.gt1 else s.work.gt1 + 1 } }) s

/-- How many positions below `maxN` are significant (R150, R162). -/
def sigCount (sig : Vector Bool 64) (maxN : Nat) : Nat :=
  (sig.toList.take maxN).count true

/-- Zero the positions from `numCoeff` to `maxN-1`, then `Complete(cbf, numCoeff, nsig)` (R151, R154, R162). -/
def cabacFinishStep (s : State) : State :=
  let nsig := sigCount s.work.sig s.maxNum
  complete nsig 0 (s.work.numCoeff - nsig) s.work.numCoeff s.work.cbf
    { s with coef := zeroRange s.work.numCoeff s.maxNum s.coef }

/-- Execution begins: coded_block_flag is read, or inferred as 1 for 64 coefficients (R151, R182). -/
def startCabac (s : State) : State :=
  if s.maxNum = 64 then startScan { s with work := { s.work with cbf := true } }
  else toPhase .codedBlockFlag s

end Sys2Proof.Machine
end

