-- ==== Sys2Proof/Machine/Engine.lean ====
section
/-! DEFINITION. The RCD's own progress: one internal step (spec/43_control.md R184), a run of them, and the
acceptance of a command (R182, R183). -/

namespace Sys2Proof.Machine

/-- ZERO_BLOCK's zero-fill and completion (R180): `count` is 0 since acceptance, so `RES_COUNT` is 0. -/
def zeroFinishStep (s : State) : State :=
  complete 0 0 0 0 false { s with coef := zeroRange 0 s.maxNum s.coef }

/-- Execution of ZERO_BLOCK begins (R180, R182). -/
def startZero (s : State) : State := toPhase .zeroFinish s

/-- ONE INTERNAL STEP of the RCD: at most one port transaction and the register updates that follow from its answer
(R184). Nothing happens when no command executes, or while the port asked does not answer (R251). -/
def rcdStep (s : State) : State :=
  if s.busy then
    match s.work.phase with
    | .idle => s
    | .coeffToken => coeffTokenStep s
    | .trailingOne => trailingOneStep s
    | .levelPrefix => levelPrefixStep s
    | .levelSuffix => levelSuffixStep s
    | .totalZeros => totalZerosStep s
    | .runBefore => runBeforeStep s
    | .cavlcFinish => cavlcFinishStep s
    | .codedBlockFlag => codedBlockFlagStep s
    | .significance => significanceStep s
    | .lastFlag => lastFlagStep s
    | .absPrefix => absPrefixStep s
    | .absUnary => absUnaryStep s
    | .absBits => absBitsStep s
    | .coeffSign => coeffSignStep s
    | .cabacFinish => cabacFinishStep s
    | .zeroFinish => zeroFinishStep s
  else s

/-- `n` internal steps. -/
def rcdSteps : Nat → State → State
  | 0, s => s
  | n + 1, s => rcdSteps n (rcdStep s)

/-- The RCD runs on alone until it completes, raises an error, or waits for a port that does not answer. Every step
but the last takes one of the answers to come, so this many steps are enough (R251). -/
def runOn (s : State) : State := rcdSteps (s.bits.length + s.bins.length + 1) s

/-- The RCD's progress after an event: while host accesses or turns are still to come they decide when it steps
(R61); when nothing more is to come it runs on alone. Log entry 1. -/
def proceed (s : State) : State := if s.env.isEmpty then runOn s else s

/-- The accepted word is latched and the command executes (R182, legal branch). -/
def latch (w : Word) (s : State) : State :=
  { s with
    busy := true
    work := { s.work with
      op := opField w
      maxN := maxNField w
      nC := nCField w
      cat := catField w
      count := 0 } }

/-- ACCEPTANCE of a command word with a legal OP and fields (R182), or the DROPPED WRITE while BUSY or in ERROR
(R183). `legal` is the operand check (R78, check 3) and `start` the first step of the command's own rule. -/
def submit (w : Word) (legal : Bool) (start : State → State) (s : State) : State :=
  if s.busy || s.err then { s with ovr := true }
  else
    let s := { s with cmd := w, done := false }
    if legal then proceed (start (latch w s)) else raiseCommand .illegalOperand s

/-- A word that is no command, written to CMD: dropped (R183), or accepted with ILLEGAL_COMMAND (R72, R73, R182). -/
def submitIllegal (w : Word) (s : State) : State :=
  if s.busy || s.err then { s with ovr := true }
  else raiseCommand .illegalCommand { s with cmd := w, done := false }

end Sys2Proof.Machine
end

