-- ==== Sys2Proof/Machine/Cabac.lean ====
section
/-! DEFINITION. The meaning of CABAC_BLOCK (spec/42_cabac.md R150). -/

namespace Sys2Proof.Machine

/-- `CABAC_BLOCK maxN, cat` written to CMD (R150, R182). -/
def execCabacBlock (maxN : BitVec 7) (cat : BitVec 3) (s : State) : Host.Outcome State Fault Refusal :=
  .next (submit (encode (.cabacBlock maxN cat)) (cabacLegal maxN) startCabac s)

end Sys2Proof.Machine
end

