-- ==== Sys2Proof/Machine/Cavlc.lean ====
section
/-! DEFINITION. The meaning of CAVLC_BLOCK (spec/40_cavlc.md R100). -/

namespace Sys2Proof.Machine

/-- `CAVLC_BLOCK maxN, nC` written to CMD (R100, R182). -/
def execCavlcBlock (maxN : BitVec 7) (nC : BitVec 6) (s : State) : Host.Outcome State Fault Refusal :=
  .next (submit (encode (.cavlcBlock maxN nC)) (cavlcLegal maxN nC) startCavlc s)

end Sys2Proof.Machine
end

