-- ==== Sys2Proof/Machine/Zero.lean ====
section
/-! DEFINITION. The meaning of ZERO_BLOCK (spec/43_control.md R180). -/

namespace Sys2Proof.Machine

/-- `ZERO_BLOCK maxN` written to CMD (R180, R182). -/
def execZeroBlock (maxN : BitVec 7) (s : State) : Host.Outcome State Fault Refusal :=
  .next (submit (encode (.zeroBlock maxN)) (zeroLegal maxN) startZero s)

end Sys2Proof.Machine
end

