-- ==== Sys2Proof/Machine/Dispatch.lean ====
section
/-! DEFINITION. The dispatch: one arm per command, each a direct call of its meaning. -/

namespace Sys2Proof.Machine

-- what a command does when its word is written to CMD (R71)
def exec (i : Instr) (s : State) : Host.Outcome State Fault Refusal :=
  match i with
  | .cavlcBlock maxN nC => Sys2Proof.Machine.execCavlcBlock maxN nC s
  | .cabacBlock maxN cat => Sys2Proof.Machine.execCabacBlock maxN cat s
  | .zeroBlock maxN => Sys2Proof.Machine.execZeroBlock maxN s

end Sys2Proof.Machine
end

