-- ==== Sys2Proof/Machine/Bus.lean ====
section
/-! DEFINITION. The host side: reads and writes of the register window (spec/10_state.md R20 to R34,
spec/20_memory.md R50 to R53, spec/43_control.md R182 to R189), the events of the outside world in their order
(spec/20_memory.md R61, spec/70_reset_and_hazards.md R230), and one step of the machine. -/

namespace Sys2Proof.Machine

/-- The byte offset of `CTRL` (R20). -/
def offCtrl : BitVec 9 := 0x004#9

/-- The byte offset of `STATUS` (R20). -/
def offStatus : BitVec 9 := 0x008#9

/-- The byte offset of `CMD` (R20). -/
def offCmd : BitVec 9 := 0x00C#9

/-- The byte offset of `COEF[0]` (R20). -/
def offCoef : BitVec 9 := 0x100#9

/-- A whole, aligned register access; any other gets a bus error (R50, R51). -/
def accessOk (off : BitVec 9) (size : Nat) : Bool := off.toNat % 4 == 0 && size == 4

/-- The scan position of a COEF offset: `off = 0x100 + 4*k` (R20). -/
def coefIndex (off : BitVec 9) : Nat := (off.toNat - 0x100) / 4

/-- The value of the register at an aligned offset, as R20 to R33 define it; an unmapped offset reads 0 (R33). -/
def regValue (off : BitVec 9) (s : State) : Word :=
  if off = 0x000#9 then Config.idValue
  else if off = 0x004#9 then s.ctrlWord
  else if off = 0x008#9 then s.statusWord
  else if off = 0x00C#9 then s.cmd
  else if off = 0x010#9 then s.errInfoWord
  else if off = 0x014#9 then s.resTc
  else if off = 0x018#9 then s.resT1
  else if off = 0x01C#9 then s.resTz
  else if off = 0x020#9 then s.resNumCoeff
  else if off = 0x024#9 then s.resCbf
  else if off = 0x028#9 then s.resCount
  else if 0x100 ≤ off.toNat then s.coef.getD (coefIndex off) 0
  else 0

/-- The registers whose reads are unspecified while BUSY: the result registers, and COEF below maxN (R34). -/
def unspecifiedNow (off : BitVec 9) (s : State) : Bool :=
  s.busy &&
    ((decide (0x014 ≤ off.toNat) && decide (off.toNat ≤ 0x028)) ||
     (decide (0x100 ≤ off.toNat) && decide (coefIndex off < s.maxNum)))

/-- A host read (R51, R53, R189): no state of the RCD changes. An unspecified read draws a free value (R34). -/
def hostRead (off : BitVec 9) (size : Nat) (s : State) : State :=
  if accessOk off size then
    if unspecifiedNow off s then
      { s with resp := some (.data (Config.freeWord s.draws)), draws := s.draws + 1 }
    else { s with resp := some (.data (regValue off s)) }
  else { s with resp := some .busError }

/-- A host write of `w` to `CTRL`: the enables at once, then a soft reset if bit 31 is 1 (R186). -/
def writeCtrl (w : Word) (s : State) : State :=
  let s := { s with ieDone := w.getLsbD 0, ieErr := w.getLsbD 1 }
  if w.getLsbD 31 then softReset s else s

/-- A host write of `w` to `STATUS`: the W1C bits (R187). -/
def writeStatus (w : Word) (s : State) : State :=
  let s := if w.getLsbD 1 then { s with done := false } else s
  let s := if w.getLsbD 2 && s.err then clearError s else s
  if w.getLsbD 3 then { s with ovr := false } else s

/-- A host write of `w` to `CMD`: the word is decoded and the command it names is executed (R78, R182, R183). -/
def writeCmd (w : Word) (s : State) : Host.Outcome State Fault Refusal :=
  match decode w with
  | .ok i => exec i s
  | .illegal _ => .next (submitIllegal w s)

/-- A host write at an aligned offset; writes to every register but CTRL, STATUS and CMD are ignored (R186 to
R188). -/
def hostWrite (off : BitVec 9) (size : Nat) (w : Word) (s : State) : Host.Outcome State Fault Refusal :=
  if accessOk off size then
    let s := { s with resp := some .done }
    if off = offCmd then writeCmd w s
    else if off = offCtrl then .next (writeCtrl w s)
    else if off = offStatus then .next (writeStatus w s)
    else .next s
  else .next { s with resp := some .busError }

/-- A host access reaches the RCD; while reset is asserted none is answered (R230). -/
def hostAccess (a : HostAccess) (s : State) : Host.Outcome State Fault Refusal :=
  if s.inReset then .next { s with resp := none }
  else match a with
    | .read off size => .next (hostRead off size s)
    | .write off size w => hostWrite off size w s

/-- The reset input changes (R230). -/
def resetInput (asserted : Bool) (s : State) : State :=
  if asserted then assertReset s else releaseReset s

/-- One turn of the RCD: an internal step, none while reset is asserted (R184, R230). -/
def rcdTurn (s : State) : State := if s.inReset then s else rcdStep s

/-- THE NEXT EVENT of the total order takes effect (R61). When no event is left the RCD runs on alone: IDLE it does
nothing (R228), BUSY it goes on as far as the ports answer (R251). -/
def nextEvent (s : State) : Host.Outcome State Fault Refusal :=
  match s.env with
  | [] => .next (if s.inReset then s else runOn s)
  | .host a :: rest => hostAccess a { s with env := rest }
  | .rcd :: rest => .next (rcdTurn { s with env := rest })
  | .reset asserted :: rest => .next (resetInput asserted { s with env := rest })

/-- The state with the write of a command word to `CMD` as its next event, and the RCD able to accept it. -/
def placeCommand (w : Word) (s : State) : State :=
  { s with inReset := false, busy := false, err := false, env := .host (.write offCmd 4 w) :: s.env }

end Sys2Proof.Machine
end

