-- ==== Sys2Proof/Machine/Step.lean ====
section
/-! DEFINITION. The step of the machine, and the placing of a command where the next step takes it. -/

namespace Sys2Proof.Machine

/-- One step: the next event of the outside world, or the RCD running on alone when none is left. -/
def step (s : State) : Host.Outcome State Fault Refusal := nextEvent s

/-- A command reaches the RCD only by a host write to `CMD` (R65, R231), so the next event is that write, with the
RCD out of reset, not BUSY and not in ERROR, where it would be dropped (R183). Log entry 13. -/
def State.withFetchWord (s : State) (nbits w : Nat) : State :=
  placeCommand (BitVec.ofNat 32 (w % 2 ^ nbits)) s

end Sys2Proof.Machine
end

