-- ==== Sys2Proof/Machine/Pseudocode.lean ====
section
/-! DEFINITION. The pseudocode of CAVLC_BLOCK (spec/40_cavlc.md R100) and CABAC_BLOCK (spec/42_cabac.md R150) as
functions from the list of a port's answers to the decoded block. The RCD of Engine.lean works one answer at a time
over its internal registers; the obligations state that it computes exactly this. -/

namespace Sys2Proof.Machine

/-- What reading a syntax element from a port's answers gives: a value, an error to raise, or a port that has not
answered yet. `log` is the port transactions made, oldest first, and `rest` the answers not used. -/
inductive Parsed (α : Type) where
  | got (value : α) (log : List Transaction) (rest : List Answer)
  | error (code : ErrorCode) (se : SyntaxElement) (idx : Nat) (log : List Transaction) (rest : List Answer)
  | waiting (log : List Transaction)
  deriving DecidableEq, Repr

/-- A part of the pseudocode that reads from a port. -/
abbrev Parser (α : Type) := List Answer → Parsed α

/-- Transactions made before the ones of `r`. -/
def Parsed.after {α : Type} (r : Parsed α) (before : List Transaction) : Parsed α :=
  match r with
  | .got v log rest => .got v (before ++ log) rest
  | .error c se idx log rest => .error c se idx (before ++ log) rest
  | .waiting log => .waiting (before ++ log)

/-- No reading: the value is known. -/
def pGive {α : Type} (v : α) : Parser α := fun l => .got v [] l

/-- `raise ERR(code, se, idx)`. -/
def pRaise {α : Type} (code : ErrorCode) (se : SyntaxElement) (idx : Nat) : Parser α :=
  fun l => .error code se idx [] l

/-- One part after another; an error ends the command. -/
def pThen {α β : Type} (p : Parser α) (f : α → Parser β) : Parser β := fun l =>
  match p l with
  | .got v log rest => (f v rest).after log
  | .error c se idx log rest => .error c se idx log rest
  | .waiting log => .waiting log

/-- One port transaction, `record` being its entry for an answer; EOS raises END_OF_STREAM (R55, R58). -/
def pRead (record : Answer → Transaction) (se : SyntaxElement) (idx : Nat) : Parser Bool
  | [] => .waiting []
  | .eos :: rest => .error .endOfStream se idx [record .eos] rest
  | .bit b :: rest => .got b [record (.bit b)] rest

/-- `BitRead1()` (R55). -/
def pBit (se : SyntaxElement) (idx : Nat) : Parser Bool := pRead .bitRead se idx

/-- `BitRead(n)`, the first bit the most significant; `acc` is the part already read (R12, R56). -/
def pBits (se : SyntaxElement) (idx : Nat) : Nat → Nat → Parser Nat
  | 0, acc => pGive acc
  | n + 1, acc => pThen (pBit se idx) fun b => pBits se idx n (2 * acc + b.toNat)

/-- `VlcDecode(T, se, idx)` with the bits `w` already read (R101). -/
def pVlc {α : Type} (T : VlcTable α) (se : SyntaxElement) (idx : Nat) (w : List Bool) : Parser α
  | [] => .waiting []
  | .eos :: rest => .error .endOfStream se idx [.bitRead .eos] rest
  | .bit b :: rest =>
    match vlcMatch T (w ++ [b]) with
    | .codeword v => .got v [.bitRead (.bit b)] rest
    | .unfinished => (pVlc T se idx (w ++ [b]) rest).after [.bitRead (.bit b)]
    | .invalid => .error .invalidSyntax se idx [.bitRead (.bit b)] rest

/-- level_prefix with `lz` zeros already read (R107). -/
def pLevelPrefix (idx : Nat) (lz : Nat) : Parser Nat
  | [] => .waiting []
  | .eos :: rest => .error .endOfStream .levelPrefix idx [.bitRead .eos] rest
  | .bit true :: rest => .got lz [.bitRead (.bit true)] rest
  | .bit false :: rest =>
    if Config.levelPrefixMax < lz + 1 then
      .error .invalidSyntax .levelPrefix idx [.bitRead (.bit false)] rest
    else (pLevelPrefix idx (lz + 1) rest).after [.bitRead (.bit false)]

/-- `Level(i)`: the level at the given suffixLength; `bias` says `i = T1` and `T1 < 3` (R107 to R110). -/
def pLevel (i suffixLength : Nat) (bias : Bool) : Parser Int :=
  pThen (pLevelPrefix i 0) fun levelPrefix =>
  pThen (pBits .levelSuffix i (suffixSize levelPrefix suffixLength) 0) fun levelSuffix =>
  pGive (levelOfCode (levelCodeOf levelPrefix suffixLength levelSuffix bias))

/-- The level loop of R100 for the `n` levels from index `i` on. -/
def pLevels (t1 : Nat) : Nat → Nat → Nat → Parser (List Int)
  | 0, _, _ => pGive []
  | n + 1, i, suffixLength =>
    if i < t1 then
      pThen (pBit .trailingOnesSignFlag i) fun b =>
      pThen (pLevels t1 n (i + 1) suffixLength) fun vs => pGive (trailingOneLevel b :: vs)
    else
      pThen (pLevel i suffixLength (decide (i = t1) && decide (t1 < 3))) fun v =>
      pThen (pLevels t1 n (i + 1) (nextSuffixLength suffixLength v)) fun vs => pGive (v :: vs)

/-- `TotalZeros(maxN, TC)` with its budget check (R112, R113). -/
def pTotalZeros (maxN tc : Nat) : Parser Nat :=
  if tc < maxN then
    pThen (pVlc (totalZerosTable maxN tc) .totalZeros 0 []) fun tz =>
    if maxN - tc < tz then pRaise .streamCorrupt .totalZeros 0 else pGive tz
  else pGive 0

/-- `Runs(TC, tz)`: the `n` runs from level `i` on that may be read, and the final run, which is the remaining
budget (R114, R115). -/
def pRuns : Nat → Nat → Nat → Parser (List Nat)
  | 0, _, zerosLeft => pGive [zerosLeft]
  | n + 1, i, zerosLeft =>
    if 0 < zerosLeft then
      pThen (pVlc (runBeforeTable (min zerosLeft 7)) .runBefore i []) fun rb =>
      if zerosLeft < rb then pRaise .streamCorrupt .runBefore i
      else pThen (pRuns n (i + 1) (zerosLeft - rb)) fun rs => pGive (rb :: rs)
    else pThen (pRuns n (i + 1) 0) fun rs => pGive (0 :: rs)

/-- A decoded block: its `maxN` coefficients in scan order, and what the result registers say of it (R26 to R30). -/
structure Block where
  coefs : List Int
  tc : Nat
  t1 : Nat
  tz : Nat
  numCoeff : Nat
  cbf : Bool
  deriving DecidableEq, Repr

/-- The block of the first coefficients `cs`, zero from there on. -/
def padBlock (maxN : Nat) (cs : List Int) : List Int := cs ++ List.replicate (maxN - cs.length) 0

/-- The reverse scatter (R116): from the last decoded level to the first, each level above its run of zeros. -/
def scatterList (levels : List Int) (runs : List Nat) : List Int :=
  (levels.zip runs).reverse.flatMap fun p => List.replicate p.2 0 ++ [p.1]

/-- `CAVLC_BLOCK maxN, nC` (R100). -/
def pCavlc (maxN : Nat) (nC : Int) : Parser Block :=
  pThen (pVlc (coeffTokenTable nC) .coeffToken 0 []) fun v =>
  if maxN < v.1 then pRaise .streamCorrupt .coeffToken 0
  else if v.1 = 0 then pGive { coefs := padBlock maxN [], tc := 0, t1 := v.2, tz := 0, numCoeff := 0, cbf := false }
  else
    pThen (pLevels v.2 v.1 0 (initialSuffixLength v.1 v.2)) fun levels =>
    pThen (pTotalZeros maxN v.1) fun tz =>
    pThen (pRuns (v.1 - 1) 0 tz) fun runs =>
    pGive
      { coefs := padBlock maxN (scatterList levels runs), tc := v.1, t1 := v.2, tz := tz
        numCoeff := v.1 + tz, cbf := true }

/-- What every bin request of one CABAC_BLOCK repeats: its operands (R59). -/
structure CabacOperands where
  maxN : BitVec 7
  cat : BitVec 3
  deriving DecidableEq, Repr

/-- `BinRead(SE, BINIDX, BYPASS, IDX)` with the level counters GT1 and EQ1 (R58, R59). -/
def pBin (o : CabacOperands) (se : SyntaxElement) (binIdx : Nat) (bypass : Bool) (idx gt1 eq1 : Nat) : Parser Bool :=
  pRead
    (.binRead
      { se := BitVec.ofNat 4 se.code, binIdx := BitVec.ofNat 7 binIdx, bypass := bypass, cat := o.cat
        maxN := o.maxN, idx := BitVec.ofNat 6 idx, gt1 := BitVec.ofNat 7 gt1, eq1 := BitVec.ofNat 7 eq1 })
    se idx

/-- The significance scan from position `i`, `n` positions being left to read below the implied one: the marks of
positions `i` to `numCoeff-1` (R152 to R154). -/
def pScan (o : CabacOperands) : Nat → Nat → Parser (List Bool)
  | 0, _ => pGive [true]
  | n + 1, i =>
    pThen (pBin o .significantCoeffFlag 0 false i 0 0) fun sig =>
    if sig then
      pThen (pBin o .lastSignificantCoeffFlag 0 false i 0 0) fun last =>
      if last then pGive [true]
      else pThen (pScan o n (i + 1)) fun marks => pGive (true :: marks)
    else pThen (pScan o n (i + 1)) fun marks => pGive (false :: marks)

/-- The truncated unary part of a magnitude, `p` ones already read of at most `p + n` (R156). -/
def pAbsPrefix (o : CabacOperands) (i gt1 eq1 : Nat) : Nat → Nat → Parser Nat
  | 0, p => pGive p
  | n + 1, p =>
    pThen (pBin o .coeffAbsLevelMinus1 p false i gt1 eq1) fun b =>
    if b then pAbsPrefix o i gt1 eq1 n (p + 1) else pGive p

/-- The unary part of the suffix at order `k`, `n` more orders being allowed: the order reached and the sum of the
powers (R157). -/
def pAbsUnary (o : CabacOperands) (i gt1 eq1 : Nat) : Nat → Nat → Nat → Parser (Nat × Nat)
  | n, k, suffix =>
    pThen (pBin o .coeffAbsLevelMinus1 (14 + k) true i gt1 eq1) fun b =>
    if b then
      match n with
      | 0 => pRaise .invalidSyntax .coeffAbsLevelMinus1 i
      | m + 1 => pAbsUnary o i gt1 eq1 m (k + 1) (suffix + 2 ^ k)
    else pGive (k, suffix)

/-- The `k` bits of the suffix, the first with bin index `binIdx` (R157). -/
def pAbsBits (o : CabacOperands) (i gt1 eq1 : Nat) : Nat → Nat → Nat → Parser Nat
  | 0, _, suffix => pGive suffix
  | k + 1, binIdx, suffix =>
    pThen (pBin o .coeffAbsLevelMinus1 binIdx true i gt1 eq1) fun b =>
    pAbsBits o i gt1 eq1 k (binIdx + 1) (suffix + b.toNat * 2 ^ k)

/-- `AbsLevelMinus1(i)` (R156, R157). -/
def pAbsLevelMinus1 (o : CabacOperands) (i gt1 eq1 : Nat) : Parser Nat :=
  pThen (pAbsPrefix o i gt1 eq1 14 0) fun p =>
  if p < 14 then pGive p
  else
    pThen (pAbsUnary o i gt1 eq1 Config.eg0KMax 0 0) fun u =>
    pThen (pAbsBits o i gt1 eq1 u.1 (14 + u.1 + 1) u.2) fun suffix => pGive (14 + suffix)

/-- The level walk over marks given from the top position down: the coefficients from the top down, and the
counters of R160 on the way (R155, R159). -/
def pWalk (o : CabacOperands) : List Bool → Nat → Nat → Parser (List Int)
  | [], _, _ => pGive []
  | false :: below, gt1, eq1 => pThen (pWalk o below gt1 eq1) fun vs => pGive (0 :: vs)
  | true :: below, gt1, eq1 =>
    pThen (pAbsLevelMinus1 o below.length gt1 eq1) fun absm1 =>
    pThen (pBin o .coeffSignFlag 0 true below.length 0 0) fun sign =>
    pThen
      (if absm1 = 0 then pWalk o below gt1 (eq1 + 1) else pWalk o below (gt1 + 1) eq1) fun vs =>
    pGive (signedLevel absm1 sign :: vs)

/-- `CodedBlockFlag(maxN)` (R151). -/
def pCodedBlockFlag (o : CabacOperands) : Parser Bool :=
  if o.maxN.toNat = 64 then pGive true else pBin o .codedBlockFlag 0 false 0 0 0

/-- `CABAC_BLOCK maxN, cat` (R150). -/
def pCabac (o : CabacOperands) : Parser Block :=
  pThen (pCodedBlockFlag o) fun cbf =>
  if cbf then
    pThen (pScan o (o.maxN.toNat - 1) 0) fun marks =>
    pThen (pWalk o marks.reverse 0 0) fun vs =>
    pGive
      { coefs := padBlock o.maxN.toNat vs.reverse, tc := marks.count true, t1 := 0
        tz := marks.length - marks.count true, numCoeff := marks.length, cbf := true }
  else
    pGive { coefs := padBlock o.maxN.toNat [], tc := 0, t1 := 0, tz := 0, numCoeff := 0, cbf := false }

end Sys2Proof.Machine
end

