-- ==== Sys2Proof/Safety.lean ====
section
/-! DEFINITION. What counts as a safe state of the RCD, in the terms the claims use: the flag invariants of
spec/10_state.md R23, the control states of R35, the widths of the internal registers (R40, spec/40_cavlc.md R118,
spec/42_cabac.md R161) and the bound on what a command consumes (spec/70_reset_and_hazards.md R250). -/

namespace Sys2Proof.Machine

/-- The invariants of `STATUS` and `ERRINFO` (R23). -/
def State.FlagsOk (s : State) : Prop :=
  (s.busy = true → s.err = false ∧ s.done = false) ∧
  (s.err = true → s.errCode ≠ 0) ∧
  (s.err = false → s.errCode = 0 ∧ s.errSe = 0 ∧ s.errIdx = 0) ∧
  ¬(s.done = true ∧ s.err = true)

/-- The sum of the first `n` runs. -/
def Work.runSum (w : Work) (n : Nat) : Nat := (w.runVal.toList.take n).sum

/-- Every internal register holds a value of the range R40 gives it, so none wraps (R118, R161, R193); but `binIdx` may
be 73, one above R40's range, which the last increment of R157 reaches (log entry 21), and `numCoeff` may be 0, one below
R40's range, for a block that is not coded (log entry 11). -/
def Work.fits (w : Work) : Prop :=
  w.tc ≤ 16 ∧ w.t1 ≤ 3 ∧ w.suffixLength ≤ 6 ∧ w.levelPrefix ≤ 32 ∧ w.levelSuffixSize ≤ 28 ∧
  w.levelSuffix < 2 ^ 28 ∧ w.levelCode < 2 ^ 29 ∧ (∀ v ∈ w.levelVal.toList, v.natAbs < 2 ^ 28) ∧
  w.tz ≤ 16 ∧ w.zerosLeft ≤ 16 ∧ (∀ r ∈ w.runVal.toList, r ≤ 16) ∧
  -1 ≤ w.coeffNum ∧ w.coeffNum ≤ 63 ∧ w.numCoeff ≤ 64 ∧ w.gt1 ≤ 64 ∧ w.eq1 ≤ 64 ∧
  w.absm1 ≤ 2 ^ 30 + 12 ∧ w.k ≤ 29 ∧ w.binIdx ≤ 73 ∧ w.i ≤ 64 ∧ w.j ≤ 28 ∧ w.code.length ≤ 15

/-- The level registers between coeff_token and the runs (R103, R105). -/
def Work.levelsOk (w : Work) : Prop :=
  cavlcLegal w.maxN w.nC = true ∧ 1 ≤ w.tc ∧ w.tc ≤ w.maxN.toNat ∧ w.t1 ≤ w.tc ∧ w.t1 ≤ 3

/-- The level walk of CABAC at position `i` (R155, R160). -/
def Work.walkOk (w : Work) : Prop :=
  cabacLegal w.maxN = true ∧ w.i < w.numCoeff ∧ w.numCoeff ≤ w.maxN.toNat ∧ w.gt1 + w.eq1 + w.i + 1 ≤ w.numCoeff

/-- What holds of the internal registers in each phase of an executing command (R37). -/
def Work.phaseOk (w : Work) : Prop :=
  match w.phase with
  | .idle => False
  | .coeffToken => cavlcLegal w.maxN w.nC = true
  | .trailingOne => w.levelsOk ∧ w.i < w.t1
  | .levelPrefix => w.levelsOk ∧ w.t1 ≤ w.i ∧ w.i < w.tc ∧ w.levelPrefix ≤ 31
  | .levelSuffix =>
    w.levelsOk ∧ w.t1 ≤ w.i ∧ w.i < w.tc ∧ w.levelPrefix ≤ 31 ∧
    w.levelSuffixSize = suffixSize w.levelPrefix w.suffixLength ∧
    1 ≤ w.j ∧ w.j ≤ w.levelSuffixSize ∧ w.levelSuffix < 2 ^ (w.levelSuffixSize - w.j)
  | .totalZeros => w.levelsOk ∧ w.tc < w.maxN.toNat
  | .runBefore =>
    w.levelsOk ∧ w.i + 1 < w.tc ∧ 0 < w.zerosLeft ∧ w.tc + w.tz ≤ w.maxN.toNat ∧
    w.runSum w.i + w.zerosLeft = w.tz
  | .cavlcFinish =>
    cavlcLegal w.maxN w.nC = true ∧
    ((w.tc = 0 ∧ w.tz = 0) ∨ (w.tc + w.tz ≤ w.maxN.toNat ∧ w.runSum w.tc = w.tz))
  | .codedBlockFlag => cabacLegal w.maxN = true ∧ w.maxN.toNat ≠ 64
  | .significance => cabacLegal w.maxN = true ∧ w.numCoeff = w.maxN.toNat ∧ w.i + 1 < w.numCoeff
  | .lastFlag => cabacLegal w.maxN = true ∧ w.numCoeff = w.maxN.toNat ∧ w.i + 1 < w.numCoeff
  | .absPrefix => w.walkOk ∧ w.binIdx < 14 ∧ w.absm1 = w.binIdx
  | .absUnary => w.walkOk ∧ w.binIdx = 14 + w.k ∧ w.absm1 = 13 + 2 ^ w.k
  | .absBits => w.walkOk ∧ 1 ≤ w.k ∧ w.binIdx + w.k ≤ 73 ∧ w.absm1 + 2 ^ w.k ≤ 2 ^ 30 + 13
  | .coeffSign => w.walkOk
  | .cabacFinish => cabacLegal w.maxN = true ∧ w.numCoeff ≤ w.maxN.toNat
  | .zeroFinish => zeroLegal w.maxN = true

/-- The internal registers of a state: within their ranges, and, exactly while BUSY, in a phase of a legal command
whose registers fit together. -/
def State.WorkOk (s : State) : Prop :=
  s.work.fits ∧ (s.busy = true → s.work.phaseOk) ∧ (s.busy = false → s.work.phase = .idle)

/-- The most bits or bins a command may consume (R250); 0 for ZERO_BLOCK. -/
def commandBound (i : Instr) : Nat :=
  match i with
  | .cavlcBlock _ _ => 1150
  | .cabacBlock maxN _ =>
    if maxN.toNat = 64 then 4862 else 1 + 2 * (maxN.toNat - 1) + 74 * maxN.toNat
  | .zeroBlock _ => 0

/-- The most port transactions the executing command can still make from its present phase: 60 bits a level, 9 for
total_zeros, 11 for a run_before; 74 bins a CABAC level (R250). -/
def Work.budget (w : Work) : Nat :=
  match w.phase with
  | .idle => 0
  | .coeffToken => (16 - w.code.length) + 16 * 60 + 9 + 15 * 11
  | .trailingOne => (w.tc - w.i) * 60 + 9 + 15 * 11
  | .levelPrefix => (w.tc - w.i - 1) * 60 + (32 - w.levelPrefix) + 28 + 9 + 15 * 11
  | .levelSuffix => (w.tc - w.i - 1) * 60 + w.j + 9 + 15 * 11
  | .totalZeros => (9 - w.code.length) + 15 * 11
  | .runBefore => (w.tc - 1 - w.i) * 11 - w.code.length
  | .cavlcFinish => 0
  | .codedBlockFlag => 1 + 2 * (w.maxN.toNat - 1) + 74 * w.maxN.toNat
  | .significance => 2 * (w.maxN.toNat - 1 - w.i) + 74 * w.maxN.toNat
  | .lastFlag => 2 * (w.maxN.toNat - 1 - w.i) - 1 + 74 * w.maxN.toNat
  | .absPrefix => (14 - w.binIdx) + 30 + 29 + 1 + 74 * w.i
  | .absUnary => (30 - w.k) + 29 + 1 + 74 * w.i
  | .absBits => w.k + 1 + 74 * w.i
  | .coeffSign => 1 + 74 * w.i
  | .cabacFinish => 0
  | .zeroFinish => 0

/-- The partial codeword is shorter than the longest codeword of the element being read (R140 to R144). -/
def Work.codeOk (w : Work) : Prop :=
  match w.phase with
  | .coeffToken => w.code.length ≤ 15
  | .totalZeros => w.code.length ≤ 8
  | .runBefore => w.code.length ≤ 10
  | _ => True

/-- What the executing command has consumed, and what it can still consume, is within the bound of R250, and so is
`RES_COUNT` (R31). -/
def State.CountOk (s : State) : Prop :=
  s.WorkOk ∧ s.resCount.toNat ≤ 4862 ∧
  (s.busy = true → s.work.codeOk ∧ s.work.count + s.work.budget ≤ 4862)

/-- An IDLE state out of reset: the next command word written to CMD is accepted (R182). -/
def State.Ready (s : State) : Prop :=
  s.busy = false ∧ s.err = false ∧ s.inReset = false

end Sys2Proof.Machine
end

