-- ==== Sys2Proof/Certificates/Slice0/Obligations.lean ====
section
/-! DEFINITION. The statements for the provers. Each is a Prop about the model of Machine/, named after what it
states; the docstring cites the rules of spec/ it formalises. -/

namespace Sys2Proof.Claims

open Sys2Proof.Machine

/-- The transaction consumed a bit or a bin: it was answered 0 or 1 (R212). -/
def answered : Transaction → Bool
  | .bitRead (.bit _) => true
  | .binRead _ (.bit _) => true
  | _ => false

/-- The host write of one whole word at an offset. -/
def writeEvent (off : BitVec 9) (w : Word) : Option Event := some (.host (.write off 4 w))

/-- Command `i` with block size `n` has taken `s` to `t` by completing without error on the block `b`, by the port
transactions `log` (R117, R162, R185): results, STATUS, COEF below `n`, and what stays as it was. -/
def Completed (i : Instr) (n : Nat) (b : Block) (log : List Transaction) (s t : State) : Prop :=
  t.busy = false ∧ t.done = true ∧ t.err = false ∧ t.ovr = s.ovr ∧
  t.errCode = s.errCode ∧ t.errSe = s.errSe ∧ t.errIdx = s.errIdx ∧ t.cmd = encode i ∧
  t.resTc = BitVec.ofNat 32 b.tc ∧ t.resT1 = BitVec.ofNat 32 b.t1 ∧ t.resTz = BitVec.ofNat 32 b.tz ∧
  t.resNumCoeff = BitVec.ofNat 32 b.numCoeff ∧ t.resCbf = (if b.cbf then 1 else 0) ∧
  t.resCount = BitVec.ofNat 32 log.length ∧ t.portLog = log.reverse ++ s.portLog ∧
  b.coefs.length = n ∧
  (∀ (k : Nat) (h : k < 64), (k < n → t.coef[k] = coefWord (b.coefs.getD k 0)) ∧ (n ≤ k → t.coef[k] = s.coef[k]))

/-- Command `i` with block size `n` has taken `s` to `t` by raising a decoding error (R210, R212, R213). -/
def Failed (i : Instr) (n : Nat) (code : ErrorCode) (se : SyntaxElement) (idx : Nat) (log : List Transaction)
    (s t : State) : Prop :=
  t.busy = false ∧ t.done = false ∧ t.err = true ∧ t.ovr = s.ovr ∧ t.cmd = encode i ∧
  t.errCode = code.code ∧ t.errSe = BitVec.ofNat 8 se.code ∧ t.errIdx = BitVec.ofNat 8 idx ∧
  t.resCount = BitVec.ofNat 32 (log.countP answered) ∧ t.portLog = log.reverse ++ s.portLog ∧
  (∀ (k : Nat) (h : k < 64), n ≤ k → t.coef[k] = s.coef[k])

/-- Command `i` with block size `n` has taken `s` to `t`, where it waits for a port that does not answer (R251). -/
def Waits (i : Instr) (n : Nat) (log : List Transaction) (s t : State) : Prop :=
  t.busy = true ∧ t.done = false ∧ t.err = false ∧ t.ovr = s.ovr ∧ t.cmd = encode i ∧
  t.portLog = log.reverse ++ s.portLog ∧ step t = .next t ∧
  (∀ (k : Nat) (h : k < 64), n ≤ k → t.coef[k] = s.coef[k])

/-- What every command leaves unchanged, whatever its outcome: the enables, the other events and the last answer, the
COEF entries from `n` on; and when it is dropped, everything but OVR (R32, R183). -/
def CommandFrame (i : Instr) (n : Nat) (s t : State) : Prop :=
  t.ieDone = s.ieDone ∧ t.ieErr = s.ieErr ∧ t.inReset = s.inReset ∧ t.env = s.env ∧ t.resp = s.resp ∧
  (∀ (k : Nat) (h : k < 64), n ≤ k → t.coef[k] = s.coef[k]) ∧
  (s.busy = true ∨ s.err = true → t = { s with ovr := true }) ∧
  (s.busy = false → s.err = false → t.ovr = s.ovr ∧ t.cmd = encode i)

/-- The result registers other than `RES_COUNT`, and every COEF entry, are as before. -/
def SameResults (s t : State) : Prop :=
  t.resTc = s.resTc ∧ t.resT1 = s.resT1 ∧ t.resTz = s.resTz ∧ t.resNumCoeff = s.resNumCoeff ∧
  t.resCbf = s.resCbf ∧ t.coef = s.coef

/-- No port transaction has taken place between `s` and `t`. -/
def SamePorts (s t : State) : Prop :=
  t.bits = s.bits ∧ t.bins = s.bins ∧ t.portLog = s.portLog

/-- Every register the host can read, but COEF, has the value of R230's table. -/
def RegistersAtReset (s : State) : Prop :=
  s.ctrlWord = 0 ∧ s.statusWord = 0 ∧ s.cmd = 0 ∧ s.errInfoWord = 0 ∧ s.resTc = 0 ∧ s.resT1 = 0 ∧ s.resTz = 0 ∧
  s.resNumCoeff = 0 ∧ s.resCbf = 0 ∧ s.resCount = 0 ∧ s.irq = false

/-- The word's OP is one of the three commands (R72). -/
def opLegal (w : Word) : Prop :=
  w.extractLsb' 0 4 = 1#4 ∨ w.extractLsb' 0 4 = 2#4 ∨ w.extractLsb' 0 4 = 3#4

/-- The reserved bits and the fields its OP does not use are 0 (R73). -/
def fieldsZero (w : Word) : Prop :=
  w.extractLsb' 20 12 = 0#12 ∧
  (w.extractLsb' 0 4 = 1#4 ∨ w.extractLsb' 0 4 = 3#4 → w.extractLsb' 17 3 = 0#3) ∧
  (w.extractLsb' 0 4 = 2#4 ∨ w.extractLsb' 0 4 = 3#4 → w.extractLsb' 11 6 = 0#6)

/-- The operands are legal for its OP (R75, R76, R77). -/
def operandsLegal (w : Word) : Prop :=
  let maxN := (w.extractLsb' 4 7).toNat
  let nC := (w.extractLsb' 11 6).toInt
  (w.extractLsb' 0 4 = 1#4 →
    (maxN = 4 ∧ nC = -1) ∨ (maxN = 8 ∧ nC = -2) ∨ ((maxN = 15 ∨ maxN = 16) ∧ 0 ≤ nC ∧ nC ≤ 31)) ∧
  (w.extractLsb' 0 4 = 2#4 → maxN = 4 ∨ maxN = 8 ∨ maxN = 15 ∨ maxN = 16 ∨ maxN = 64) ∧
  (w.extractLsb' 0 4 = 3#4 → 1 ≤ maxN ∧ maxN ≤ 64)

/-- A word refused at acceptance with an error code: ERROR, ERRINFO 0, no port transaction, no COEF write (R211). -/
def RefusedWith (code : BitVec 4) (s t : State) : Prop :=
  t.busy = false ∧ t.err = true ∧ t.errCode = code ∧ t.errSe = 0 ∧ t.errIdx = 0 ∧ t.resCount = 0 ∧
  SamePorts s t ∧ SameResults s t

/-- How many last_significant_coeff_flag bins (SE 10) of a log were answered 1. -/
def lastFlagsSet (log : List Transaction) : Nat :=
  log.countP fun
    | .binRead req (.bit true) => req.se == 10
    | _ => false

/-- What one internal step from `s` to `t` keeps (R32, R184): COEF from maxN on, the enables, OVR, CMD, the reset input,
the events, the last answer, and the operands of the command; and as long as the command stays BUSY, also the other
flags, the error record and every result register. -/
def InternalStepFrame (s t : State) : Prop :=
  (∀ (k : Nat) (h : k < 64), s.maxNum ≤ k → t.coef[k] = s.coef[k]) ∧
  t.ieDone = s.ieDone ∧ t.ieErr = s.ieErr ∧ t.ovr = s.ovr ∧ t.cmd = s.cmd ∧
  t.inReset = s.inReset ∧ t.env = s.env ∧ t.resp = s.resp ∧
  t.work.op = s.work.op ∧ t.work.maxN = s.work.maxN ∧ t.work.nC = s.work.nC ∧ t.work.cat = s.work.cat ∧
  (t.busy = true →
    t.done = s.done ∧ t.err = s.err ∧ t.errCode = s.errCode ∧ t.errSe = s.errSe ∧ t.errIdx = s.errIdx ∧
    t.resTc = s.resTc ∧ t.resT1 = s.resT1 ∧ t.resTz = s.resTz ∧ t.resNumCoeff = s.resNumCoeff ∧
    t.resCbf = s.resCbf ∧ t.resCount = s.resCount ∧ t.draws = s.draws)

/-- The number of nonzero entries among the first `n` of COEF. -/
def nonzeroCount (n : Nat) (t : State) : Nat := (t.coef.toList.take n).countP (· ≠ 0)

/-- The code tables of spec/41_cavlc_tables.md: every column of coeff_token, and every row and column of total_zeros
and run_before that has a codeword. -/
def IsNatTable (T : VlcTable Nat) : Prop :=
  (∃ tc, 1 ≤ tc ∧ tc ≤ 15 ∧ T = totalZeros4x4 tc) ∨ (∃ tc, 1 ≤ tc ∧ tc ≤ 3 ∧ T = totalZerosDc420 tc) ∨
  (∃ tc, 1 ≤ tc ∧ tc ≤ 7 ∧ T = totalZerosDc422 tc) ∨ (∃ z, 1 ≤ z ∧ z ≤ 7 ∧ T = runBeforeTable z)

/-- The answers that deliver the bits of a codeword. -/
def asAnswers (w : List Bool) : List Answer := w.map .bit

/-- The transactions of reading the bits of a codeword. -/
def asReads (w : List Bool) : List Transaction := w.map fun b => .bitRead (.bit b)

/-- The bit strings of R145 for coeff_token, the column selected by nC. -/
def invalidCoeffToken (nC : Int) : List (List Bool) :=
  if nC = -1 then []
  else if nC = -2 then [cw 11 0b00000000000, cw 12 0b000000000010, cw 13 0b0000000000110]
  else if nC < 2 then [cw 15 0b000000000000000]
  else if nC < 4 then [cw 13 0b0000000000000]
  else if nC < 8 then [cw 10 0b0000000000]
  else [cw 6 0b000010, cw 6 0b000111]

end Sys2Proof.Claims

open Sys2Proof Sys2Proof.Machine Sys2Proof.Claims

/-! ## Encoding -/

/-- R70, R71, R74: the decoder reads back every command from its word, with every operand value. -/
def Obligations.DecodeOfEncode : Prop :=
  ∀ i : Instr, decode (encode i) = .ok i

/-- R70, R73: a word that decodes is exactly the word of the command it decodes to. -/
def Obligations.EncodeOfDecode : Prop :=
  ∀ (w : Word) (i : Instr), decode w = .ok i → encode i = w

/-- R73: a word is a command of a row of the opcode table exactly when `(word AND mask) = match`. -/
def Obligations.DecodeMatchesMaskAndMatch : Prop :=
  ∀ w : Word,
    ((∃ maxN nC, decode w = .ok (.cavlcBlock maxN nC)) ↔ w &&& 0xFFFE000F#32 = 0x00000001#32) ∧
    ((∃ maxN cat, decode w = .ok (.cabacBlock maxN cat)) ↔ w &&& 0xFFF1F80F#32 = 0x00000002#32) ∧
    ((∃ maxN, decode w = .ok (.zeroBlock maxN)) ↔ w &&& 0xFFFFF80F#32 = 0x00000003#32)

/-- R88: words the spec writes out decode to the commands it writes beside them. -/
def Obligations.WorkedEncodingsDecode : Prop :=
  decode 0x00001901#32 = .ok (.cavlcBlock 16 3) ∧ decode 0x0001F841#32 = .ok (.cavlcBlock 4 (-1)) ∧
  decode 0x00040102#32 = .ok (.cabacBlock 16 2) ∧ decode 0x000A0402#32 = .ok (.cabacBlock 64 5) ∧
  decode 0x000000F3#32 = .ok (.zeroBlock 15) ∧ decode 0x00000902#32 = .illegal .ncNotZero ∧
  decode 0x00000105#32 = .illegal .reservedOpcode ∧ decode 0x80000103#32 = .illegal .reservedBits

/-! ## Acceptance of a command word -/

/-- R72, R73, R75 to R79, R211: the three checks in their order decide what a written word does, and every word does
exactly one of: become BUSY, ILLEGAL_COMMAND, ILLEGAL_OPERAND. The last clause is in part the model's choice: that a
legal word leaves the RCD BUSY while an event is still to come is log entry 1, and that ZERO_BLOCK does so too, which
R184 lets complete in the step of its acceptance, is log entry 7. (With no event to come, a legal command also runs on
within the same step; the completion statements below say what it then does.) -/
def Obligations.ValidationOrderAtAcceptance : Prop :=
  ∀ (w : Word) (s : State), s.Ready →
    ∃ t, writeCmd w s = .next t ∧
      (¬ opLegal w → RefusedWith 1 s t) ∧
      (opLegal w → ¬ fieldsZero w → RefusedWith 1 s t) ∧
      (opLegal w → fieldsZero w → ¬ operandsLegal w → RefusedWith 2 s t) ∧
      (opLegal w → fieldsZero w → operandsLegal w → s.env ≠ [] → t.busy = true ∧ t.err = false)

/-- R182, R211: what one acceptance step writes, for a legal and for an illegal word. The legal clause is in part the
model's choice: with an event still to come acceptance ends the step (log entry 1), and ZERO_BLOCK, which R184 lets
complete in the same step, is then BUSY with its results not yet written (log entry 7). -/
def Obligations.AcceptanceIsOneAtomicStep : Prop :=
  ∀ (w : Word) (s : State), s.Ready →
    (∀ i, decode w = .ok i → i.wellFormed = true → s.env ≠ [] →
      ∃ t, writeCmd w s = .next t ∧ t.cmd = w ∧ t.done = false ∧ t.busy = true ∧ t.err = false ∧ t.ovr = s.ovr ∧
        t.work.op = w.extractLsb' 0 4 ∧ t.work.maxN = w.extractLsb' 4 7 ∧ t.work.nC = w.extractLsb' 11 6 ∧
        t.work.cat = w.extractLsb' 17 3 ∧ t.work.count = 0 ∧ t.resCount = s.resCount ∧
        SamePorts s t ∧ SameResults s t) ∧
    ((∀ i, decode w = .ok i → i.wellFormed = false) →
      ∃ t, writeCmd w s = .next t ∧ t.cmd = w ∧ t.done = false ∧ t.ovr = s.ovr ∧
        RefusedWith (match decode w with | .ok _ => 2 | .illegal _ => 1) s t)

/-- R183: a write to CMD while BUSY or in ERROR sets OVR and changes nothing else, and so not irq. -/
def Obligations.CommandDroppedWhileBusyOrError : Prop :=
  ∀ (w : Word) (s : State), s.busy = true ∨ s.err = true →
    writeCmd w s = .next { s with ovr := true } ∧ State.irq { s with ovr := true } = s.irq ∧
    ∀ i : Instr, exec i s = .next { s with ovr := true }

/-- R75 to R77: the commands themselves raise ILLEGAL_OPERAND on operands that are not legal. -/
def Obligations.IllegalOperandsRaise : Prop :=
  ∀ (i : Instr) (s : State), s.Ready → i.wellFormed = false →
    ∃ t, exec i s = .next t ∧ t.cmd = encode i ∧ t.done = false ∧ RefusedWith 2 s t

/-! ## ZERO_BLOCK -/

/-- R180: ZERO_BLOCK completes with `COEF[0..maxN-1]` zero, every result 0 and no port transaction. -/
def Obligations.ZeroBlockCompletes : Prop :=
  ∀ (maxN : BitVec 7) (s : State), s.Ready → s.env = [] → 1 ≤ maxN.toNat → maxN.toNat ≤ 64 →
    ∃ t, exec (.zeroBlock maxN) s = .next t ∧
      t.busy = false ∧ t.done = true ∧ t.err = false ∧ t.cmd = encode (.zeroBlock maxN) ∧
      t.resTc = 0 ∧ t.resT1 = 0 ∧ t.resTz = 0 ∧ t.resNumCoeff = 0 ∧ t.resCbf = 0 ∧ t.resCount = 0 ∧
      SamePorts s t ∧
      (∀ (k : Nat) (h : k < 64), (k < maxN.toNat → t.coef[k] = 0) ∧ (maxN.toNat ≤ k → t.coef[k] = s.coef[k]))

/-- R180: what ZERO_BLOCK leaves unchanged in every state, the ports included. -/
def Obligations.ZeroBlockFrame : Prop :=
  ∀ (maxN : BitVec 7) (s t : State), exec (.zeroBlock maxN) s = .next t →
    CommandFrame (.zeroBlock maxN) maxN.toNat s t ∧ SamePorts s t ∧ t.draws = s.draws

/-! ## CAVLC_BLOCK -/

/-- R100 to R117: where the pseudocode decodes a block from the bit port's answers, CAVLC_BLOCK completes with that
block, having made exactly those bit reads. -/
def Obligations.CavlcBlockCompletes : Prop :=
  ∀ (maxN : BitVec 7) (nC : BitVec 6) (s : State) (b : Block) (log : List Transaction) (rest : List Answer),
    s.Ready → s.env = [] → cavlcLegal maxN nC = true →
    pCavlc maxN.toNat nC.toInt s.bits = .got b log rest →
    ∃ t, exec (.cavlcBlock maxN nC) s = .next t ∧
      Completed (.cavlcBlock maxN nC) maxN.toNat b log s t ∧ t.bits = rest ∧ t.bins = s.bins

/-- R101 to R114, R121, R210, R212, R213: where the pseudocode raises an error, CAVLC_BLOCK enters the ERROR state with
that code, element and index. -/
def Obligations.CavlcBlockRaises : Prop :=
  ∀ (maxN : BitVec 7) (nC : BitVec 6) (s : State) (c : ErrorCode) (se : SyntaxElement) (idx : Nat)
    (log : List Transaction) (rest : List Answer),
    s.Ready → s.env = [] → cavlcLegal maxN nC = true →
    pCavlc maxN.toNat nC.toInt s.bits = .error c se idx log rest →
    ∃ t, exec (.cavlcBlock maxN nC) s = .next t ∧
      Failed (.cavlcBlock maxN nC) maxN.toNat c se idx log s t ∧ t.bits = rest ∧ t.bins = s.bins

/-- R251: where the bit port stops answering, CAVLC_BLOCK stays BUSY and the machine does not move. -/
def Obligations.CavlcBlockWaitsForBits : Prop :=
  ∀ (maxN : BitVec 7) (nC : BitVec 6) (s : State) (log : List Transaction),
    s.Ready → s.env = [] → cavlcLegal maxN nC = true →
    pCavlc maxN.toNat nC.toInt s.bits = .waiting log →
    ∃ t, exec (.cavlcBlock maxN nC) s = .next t ∧
      Waits (.cavlcBlock maxN nC) maxN.toNat log s t ∧ t.bits = [] ∧ t.bins = s.bins

/-- R104: a coeff_token of TotalCoeff 0 completes an all-zero block, and no further bit is read. -/
def Obligations.CavlcZeroTotalCoeffReadsOnlyCoeffToken : Prop :=
  ∀ (maxN : BitVec 7) (nC : BitVec 6) (w : List Bool) (t1 : Nat) (rest : List Answer) (s : State),
    s.Ready → s.env = [] → cavlcLegal maxN nC = true →
    (w, (0, t1)) ∈ coeffTokenTable nC.toInt → s.bits = asAnswers w ++ rest →
    ∃ t, exec (.cavlcBlock maxN nC) s = .next t ∧ t.busy = false ∧ t.done = true ∧ t.err = false ∧
      t.bits = rest ∧ t.resCount = BitVec.ofNat 32 w.length ∧
      t.resTc = 0 ∧ t.resT1 = 0 ∧ t.resTz = 0 ∧ t.resNumCoeff = 0 ∧ t.resCbf = 0 ∧
      (∀ (k : Nat) (h : k < 64), k < maxN.toNat → t.coef[k] = 0)

/-- R103: a coeff_token whose TotalCoeff exceeds maxN raises STREAM_CORRUPT with ERRSE 1, ERRIDX 0, before any further
bit. -/
def Obligations.CavlcTotalCoeffAboveBudgetIsCorrupt : Prop :=
  ∀ (maxN : BitVec 7) (nC : BitVec 6) (w : List Bool) (tc t1 : Nat) (rest : List Answer) (s : State),
    s.Ready → s.env = [] → cavlcLegal maxN nC = true →
    (w, (tc, t1)) ∈ coeffTokenTable nC.toInt → maxN.toNat < tc → s.bits = asAnswers w ++ rest →
    (maxN.toNat = 15 ∧ tc = 16) ∧
    ∃ t, exec (.cavlcBlock maxN nC) s = .next t ∧ t.busy = false ∧ t.err = true ∧ t.errCode = 4 ∧
      t.errSe = 1 ∧ t.errIdx = 0 ∧ t.bits = rest ∧ t.resCount = BitVec.ofNat 32 w.length

/-- R32, R55: what CAVLC_BLOCK leaves unchanged in every state: the bin port, COEF from maxN on, the enables; it takes
bits only from the front of the bit port's answers. -/
def Obligations.CavlcBlockFrame : Prop :=
  ∀ (maxN : BitVec 7) (nC : BitVec 6) (s t : State), exec (.cavlcBlock maxN nC) s = .next t →
    CommandFrame (.cavlcBlock maxN nC) maxN.toNat s t ∧ t.bins = s.bins ∧
    ∃ used, s.bits = used ++ t.bits ∧ t.portLog = (used.map Transaction.bitRead).reverse ++ s.portLog

/-- R119: the block CAVLC_BLOCK leaves: TC nonzero entries, the highest at `RES_NUMCOEFF - 1`, zero above. -/
def Obligations.CavlcScatterInvariants : Prop :=
  ∀ (maxN : BitVec 7) (nC : BitVec 6) (s t : State), s.Ready → cavlcLegal maxN nC = true →
    exec (.cavlcBlock maxN nC) s = .next t → t.done = true →
    nonzeroCount maxN.toNat t = t.resTc.toNat ∧
    t.resNumCoeff.toNat = (if t.resTc = 0 then 0 else t.resTc.toNat + t.resTz.toNat) ∧
    t.resNumCoeff.toNat ≤ maxN.toNat ∧
    (t.resCbf = 1 ↔ t.resTc ≠ 0) ∧ t.resT1.toNat ≤ min 3 t.resTc.toNat ∧
    (∀ (k : Nat) (h : k < 64), (k + 1 = t.resNumCoeff.toNat → t.coef[k] ≠ 0) ∧
      (t.resNumCoeff.toNat ≤ k → k < maxN.toNat → t.coef[k] = 0))

/-- R118: every level CAVLC_BLOCK writes is below 2^28 in magnitude, so it fits COEF_WIDTH. -/
def Obligations.CavlcLevelsFit : Prop :=
  ∀ (maxN : BitVec 7) (nC : BitVec 6) (s t : State), s.Ready → cavlcLegal maxN nC = true →
    exec (.cavlcBlock maxN nC) s = .next t → t.done = true →
    ∀ (k : Nat) (h : k < 64), k < maxN.toNat → t.coef[k].toInt.natAbs < 2 ^ 28

/-- 95_test_vectors.md V-SRC-1: every block with levels up to 2^27 has a bit string on which CAVLC_BLOCK yields it,
consuming exactly that string. -/
def Obligations.CavlcDecodesEveryBlock : Prop :=
  ∀ (maxN : BitVec 7) (nC : BitVec 6) (xs : List Int), cavlcLegal maxN nC = true → xs.length = maxN.toNat →
    (∀ v ∈ xs, v.natAbs ≤ 2 ^ 27) →
    ∃ code : List Bool, ∀ (s : State) (rest : List Answer), s.Ready → s.env = [] →
      s.bits = asAnswers code ++ rest →
      ∃ t, exec (.cavlcBlock maxN nC) s = .next t ∧ t.done = true ∧ t.bits = rest ∧
        t.resCount = BitVec.ofNat 32 code.length ∧
        ∀ (k : Nat) (h : k < 64), k < maxN.toNat → t.coef[k] = coefWord (xs.getD k 0)

/-! ## The code tables -/

/-- R101, R140 to R144: from every codeword of every table, whatever follows it, `VlcDecode` returns its value and
reads exactly its bits. -/
def Obligations.VlcDecodeReadsExactlyTheCodeword : Prop :=
  (∀ (nC : Int) (w : List Bool) (v : Nat × Nat) (se : SyntaxElement) (idx : Nat) (rest : List Answer),
    (w, v) ∈ coeffTokenTable nC →
    pVlc (coeffTokenTable nC) se idx [] (asAnswers w ++ rest) = .got v (asReads w) rest) ∧
  (∀ (T : VlcTable Nat) (w : List Bool) (v : Nat) (se : SyntaxElement) (idx : Nat) (rest : List Answer),
    IsNatTable T → (w, v) ∈ T →
    pVlc T se idx [] (asAnswers w ++ rest) = .got v (asReads w) rest)

/-- R145: on coeff_token, `INVALID_SYNTAX` is raised exactly by the strings listed there, after their last bit. -/
def Obligations.CoeffTokenInvalidStrings : Prop :=
  ∀ (nC : Int) (w : List Bool) (se : SyntaxElement) (idx : Nat) (rest : List Answer),
    w ∈ invalidCoeffToken nC ↔
    pVlc (coeffTokenTable nC) se idx [] (asAnswers w ++ rest) = .error .invalidSyntax se idx (asReads w) rest

/-- R145: on total_zeros and run_before, `INVALID_SYNTAX` is raised only in the row TC = 1 of R141 and the column >6 of
R144, and there exactly by the one string listed. -/
def Obligations.TotalZerosAndRunBeforeInvalidStrings : Prop :=
  ∀ (T : VlcTable Nat) (w : List Bool) (se : SyntaxElement) (idx : Nat) (rest : List Answer), IsNatTable T →
    ((T = totalZeros4x4 1 ∧ w = cw 9 0b000000000) ∨ (T = runBeforeTable 7 ∧ w = cw 11 0b00000000000) ↔
    pVlc T se idx [] (asAnswers w ++ rest) = .error .invalidSyntax se idx (asReads w) rest)

/-! ## CABAC_BLOCK -/

/-- R150 to R162: where the pseudocode decodes a block from the bin port's answers, CABAC_BLOCK completes with that
block, having made exactly those bin requests. -/
def Obligations.CabacBlockCompletes : Prop :=
  ∀ (maxN : BitVec 7) (cat : BitVec 3) (s : State) (b : Block) (log : List Transaction) (rest : List Answer),
    s.Ready → s.env = [] → cabacLegal maxN = true →
    pCabac { maxN := maxN, cat := cat } s.bins = .got b log rest →
    ∃ t, exec (.cabacBlock maxN cat) s = .next t ∧
      Completed (.cabacBlock maxN cat) maxN.toNat b log s t ∧ t.bins = rest ∧ t.bits = s.bits

/-- R151 to R159, R166, R210, R212, R213: where the pseudocode raises an error, CABAC_BLOCK enters the ERROR state with
that code, element and position. -/
def Obligations.CabacBlockRaises : Prop :=
  ∀ (maxN : BitVec 7) (cat : BitVec 3) (s : State) (c : ErrorCode) (se : SyntaxElement) (idx : Nat)
    (log : List Transaction) (rest : List Answer),
    s.Ready → s.env = [] → cabacLegal maxN = true →
    pCabac { maxN := maxN, cat := cat } s.bins = .error c se idx log rest →
    ∃ t, exec (.cabacBlock maxN cat) s = .next t ∧
      Failed (.cabacBlock maxN cat) maxN.toNat c se idx log s t ∧ t.bins = rest ∧ t.bits = s.bits

/-- R251: where the bin port stops answering, CABAC_BLOCK stays BUSY and the machine does not move. -/
def Obligations.CabacBlockWaitsForBins : Prop :=
  ∀ (maxN : BitVec 7) (cat : BitVec 3) (s : State) (log : List Transaction),
    s.Ready → s.env = [] → cabacLegal maxN = true →
    pCabac { maxN := maxN, cat := cat } s.bins = .waiting log →
    ∃ t, exec (.cabacBlock maxN cat) s = .next t ∧
      Waits (.cabacBlock maxN cat) maxN.toNat log s t ∧ t.bins = [] ∧ t.bits = s.bits

/-- R151: coded_block_flag is inferred as 1 for 64 coefficients, the first request being then a significance bin; else
its bin is the first request, and a 0 completes an all-zero block with nothing more read. The second clause is in part
the model's choice: that acceptance ends the step while an event is still to come is log entry 1, and that the updates
before a command's first request, here `cbf`, the phase and `i`, are made in the step of its acceptance is log entry 7
(R182 does not list them, and R184 lets them come later). -/
def Obligations.CabacCodedBlockFlag : Prop :=
  (∀ (maxN : BitVec 7) (cat : BitVec 3) (s : State) (rest : List Answer), s.Ready → s.env = [] →
    cabacLegal maxN = true → maxN.toNat ≠ 64 → s.bins = .bit false :: rest →
    ∃ t req, exec (.cabacBlock maxN cat) s = .next t ∧ t.busy = false ∧ t.done = true ∧ t.err = false ∧
      t.bins = rest ∧ t.portLog = .binRead req (.bit false) :: s.portLog ∧
      req.se = 8 ∧ req.binIdx = 0 ∧ req.bypass = false ∧ req.idx = 0 ∧
      t.resCount = 1 ∧ t.resCbf = 0 ∧ t.resNumCoeff = 0 ∧ t.resTc = 0 ∧ t.resTz = 0 ∧ t.resT1 = 0 ∧
      (∀ (k : Nat) (h : k < 64), k < maxN.toNat → t.coef[k] = 0)) ∧
  (∀ (cat : BitVec 3) (s : State), s.Ready → s.env ≠ [] →
    ∃ t, exec (.cabacBlock 64 cat) s = .next t ∧ t.work.cbf = true ∧ t.work.phase = .significance ∧ t.work.i = 0) ∧
  (∀ (cat : BitVec 3) (s t : State) (log : List Transaction), s.Ready →
    exec (.cabacBlock 64 cat) s = .next t → t.portLog = log ++ s.portLog →
    ∀ x ∈ log, ∃ req a, x = .binRead req a ∧ req.se ≠ 8)

/-- R32, R58: what CABAC_BLOCK leaves unchanged in every state: the bit port, COEF from maxN on, the enables; it takes
bins only from the front of the bin port's answers. -/
def Obligations.CabacBlockFrame : Prop :=
  ∀ (maxN : BitVec 7) (cat : BitVec 3) (s t : State), exec (.cabacBlock maxN cat) s = .next t →
    CommandFrame (.cabacBlock maxN cat) maxN.toNat s t ∧ t.bits = s.bits ∧
    ∃ used : List (BinRequest × Answer), s.bins = used.map (·.2) ++ t.bins ∧
      t.portLog = (used.map fun u => Transaction.binRead u.1 u.2).reverse ++ s.portLog

/-- R59, R76, R158, R160: the fields of every bin request of a CABAC_BLOCK. -/
def Obligations.CabacRequestFields : Prop :=
  ∀ (maxN : BitVec 7) (cat : BitVec 3) (s t : State) (log : List Transaction), s.Ready → cabacLegal maxN = true →
    exec (.cabacBlock maxN cat) s = .next t → t.portLog = log ++ s.portLog →
    ∀ x ∈ log, ∃ req a, x = .binRead req a ∧ req.cat = cat ∧ req.maxN = maxN ∧
      8 ≤ req.se.toNat ∧ req.se.toNat ≤ 12 ∧ req.idx.toNat < maxN.toNat ∧
      (req.bypass = true ↔ (req.se = 11 ∧ 14 ≤ req.binIdx.toNat) ∨ req.se = 12) ∧
      (req.se ≠ 11 → req.binIdx = 0 ∧ req.gt1 = 0 ∧ req.eq1 = 0) ∧
      (req.se = 11 → req.binIdx.toNat ≤ 72 ∧ req.gt1.toNat + req.eq1.toNat + req.idx.toNat < maxN.toNat) ∧
      (req.se = 9 ∨ req.se = 10 → req.idx.toNat + 1 < maxN.toNat)

/-- The block CABAC_BLOCK leaves: RES_TC nonzero entries, the highest at `RES_NUMCOEFF - 1`, zero above (R152 to R155,
R162). Of R163: at most one last bin is answered 1, and for a coded block none is exactly when `RES_NUMCOEFF = maxN`
(spec/90_conflicts.md C4); and no significance or last bin was requested above position `RES_NUMCOEFF - 1`, where R163
says "at or beyond" it, against R152, R153 and V-CABAC-2 (log entry 20): that sentence of R163 is not claimed. -/
def Obligations.CabacSignificanceInvariants : Prop :=
  ∀ (maxN : BitVec 7) (cat : BitVec 3) (s t : State) (log : List Transaction), s.Ready → cabacLegal maxN = true →
    exec (.cabacBlock maxN cat) s = .next t → t.done = true → t.portLog = log ++ s.portLog →
    nonzeroCount maxN.toNat t = t.resTc.toNat ∧ t.resTc.toNat ≤ t.resNumCoeff.toNat ∧
    t.resNumCoeff.toNat ≤ maxN.toNat ∧ t.resTz.toNat = t.resNumCoeff.toNat - t.resTc.toNat ∧ t.resT1 = 0 ∧
    (t.resCbf = 1 ↔ t.resTc ≠ 0) ∧ (t.resCbf = 0 ↔ t.resNumCoeff = 0) ∧
    (∀ (k : Nat) (h : k < 64), (k + 1 = t.resNumCoeff.toNat → t.coef[k] ≠ 0) ∧
      (t.resNumCoeff.toNat ≤ k → k < maxN.toNat → t.coef[k] = 0)) ∧
    (∀ req a, Transaction.binRead req a ∈ log → req.se = 9 ∨ req.se = 10 →
      req.idx.toNat < t.resNumCoeff.toNat) ∧
    lastFlagsSet log ≤ 1 ∧ (t.resCbf = 1 → (lastFlagsSet log = 0 ↔ t.resNumCoeff.toNat = maxN.toNat))

/-- R161: every level CABAC_BLOCK writes is 0 or has magnitude 1 to 2^30 + 13, so it fits COEF_WIDTH. -/
def Obligations.CabacLevelsFit : Prop :=
  ∀ (maxN : BitVec 7) (cat : BitVec 3) (s t : State), s.Ready → cabacLegal maxN = true →
    exec (.cabacBlock maxN cat) s = .next t → t.done = true →
    ∀ (k : Nat) (h : k < 64), k < maxN.toNat → t.coef[k].toInt.natAbs ≤ 2 ^ 30 + 13

/-- 95_test_vectors.md V-SRC-1: every block with levels up to 2^30 + 13 has a bin string on which CABAC_BLOCK yields
it, consuming exactly that string; a 64-entry block that is all zero has none (R151). -/
def Obligations.CabacDecodesEveryBlock : Prop :=
  ∀ (maxN : BitVec 7) (cat : BitVec 3) (xs : List Int), cabacLegal maxN = true → xs.length = maxN.toNat →
    (∀ v ∈ xs, v.natAbs ≤ 2 ^ 30 + 13) → (maxN.toNat = 64 → ∃ v ∈ xs, v ≠ 0) →
    ∃ code : List Bool, ∀ (s : State) (rest : List Answer), s.Ready → s.env = [] →
      s.bins = asAnswers code ++ rest →
      ∃ t, exec (.cabacBlock maxN cat) s = .next t ∧ t.done = true ∧ t.bins = rest ∧
        t.resCount = BitVec.ofNat 32 code.length ∧
        ∀ (k : Nat) (h : k < 64), k < maxN.toNat → t.coef[k] = coefWord (xs.getD k 0)

/-! ## All commands -/

/-- R55, R58, R212: a command that has ended has consumed what RES_COUNT says, and an EOS answer, if any, was its last
and uncounted. -/
def Obligations.CommandConsumesWhatItCounts : Prop :=
  ∀ (i : Instr) (s t : State) (log : List Transaction), s.Ready → i.wellFormed = true → exec i s = .next t →
    t.busy = false → t.portLog = log ++ s.portLog →
    t.resCount = BitVec.ofNat 32 (log.countP answered) ∧
    s.bits.length + s.bins.length = log.length + t.bits.length + t.bins.length ∧
    (t.done = true → ∀ x ∈ log, answered x = true) ∧
    (t.err = true → (t.errCode = 5 ↔ ∃ x rest, log = x :: rest ∧ answered x = false) ∧
      ∀ x ∈ log.drop 1, answered x = true)

/-- R250: a command that has ended has consumed no more than its bound, and R31: never more than 4862. -/
def Obligations.ConsumptionBounds : Prop :=
  ∀ (i : Instr) (s t : State), s.Ready → i.wellFormed = true → exec i s = .next t → t.busy = false →
    t.resCount.toNat ≤ commandBound i ∧ commandBound i ≤ 4862

/-- R251: given as many answers as the bound, a legal command ends, by completing or by an error. -/
def Obligations.CommandsTerminate : Prop :=
  ∀ (i : Instr) (s : State), s.Ready → s.env = [] → i.wellFormed = true →
    commandBound i ≤ s.bits.length → commandBound i ≤ s.bins.length →
    ∃ t, exec i s = .next t ∧ t.busy = false ∧ (t.done = true ∧ t.err = false ∨ t.err = true ∧ t.done = false)

/-- R121, R164, R166, R200: the errors each command can end with. -/
def Obligations.DecodingErrorCodes : Prop :=
  ∀ (i : Instr) (s t : State), s.Ready → i.wellFormed = true → exec i s = .next t → t.err = true →
    (t.errCode = 3 ∨ t.errCode = 4 ∨ t.errCode = 5) ∧
    match i with
    | .cavlcBlock _ _ => 1 ≤ t.errSe.toNat ∧ t.errSe.toNat ≤ 6 ∧ t.errIdx.toNat ≤ 15
    | .cabacBlock _ _ =>
      8 ≤ t.errSe.toNat ∧ t.errSe.toNat ≤ 12 ∧ t.errCode ≠ 4 ∧ (t.errCode = 3 → t.errSe = 11) ∧ t.errIdx.toNat ≤ 63
    | .zeroBlock _ => False

/-- R41, R57: what a command does depends on its word and the ports' answers alone, and not on the internal registers,
the results or the COEF entries of the state it starts from. -/
def Obligations.ResultDependsOnlyOnWordAndAnswers : Prop :=
  ∀ (i : Instr) (s1 s2 t1 t2 : State), s1.Ready → s2.Ready → s1.env = [] → s2.env = [] →
    s1.bits = s2.bits → s1.bins = s2.bins → exec i s1 = .next t1 → exec i s2 = .next t2 →
    t1.busy = t2.busy ∧ t1.done = t2.done ∧ t1.err = t2.err ∧ t1.bits = t2.bits ∧ t1.bins = t2.bins ∧
    (∃ log, t1.portLog = log ++ s1.portLog ∧ t2.portLog = log ++ s2.portLog) ∧
    (t1.busy = false → t1.resCount = t2.resCount) ∧
    (t1.err = true → t1.errCode = t2.errCode ∧ t1.errSe = t2.errSe ∧ t1.errIdx = t2.errIdx) ∧
    (t1.done = true →
      t1.resTc = t2.resTc ∧ t1.resT1 = t2.resT1 ∧ t1.resTz = t2.resTz ∧ t1.resNumCoeff = t2.resNumCoeff ∧
      t1.resCbf = t2.resCbf ∧
      ∀ (k : Nat) (h : k < 64), k < (maxNField (encode i)).toNat → t1.coef[k] = t2.coef[k])

/-- R61, R184: taking the command's internal steps one at a time, as turns in the order of events, ends in the same
state as running on alone. -/
def Obligations.TurnsMakeTheSameRun : Prop :=
  ∀ (i : Instr) (s t u : State) (n : Nat), s.Ready → s.env = [] → i.wellFormed = true →
    s.bits.length + s.bins.length + 1 ≤ n → exec i s = .next t →
    exec i { s with env := List.replicate n .rcd } = .next u → Sys2Proof.core.run n u = .next t

/-- R55, R58, R184, R32: one internal step makes at most one port transaction, by taking the first answer of one port,
in every state; and from every state whose internal registers fit together it keeps COEF from maxN on, the enables, OVR,
CMD and the rest of `InternalStepFrame`, whether it raises an error or not. -/
def Obligations.OneTransactionPerInternalStep : Prop :=
  (∀ s : State,
    SamePorts s (rcdStep s) ∨
    (∃ a, s.bits = a :: (rcdStep s).bits ∧ (rcdStep s).bins = s.bins ∧
      (rcdStep s).portLog = .bitRead a :: s.portLog) ∨
    (∃ req a, s.bins = a :: (rcdStep s).bins ∧ (rcdStep s).bits = s.bits ∧
      (rcdStep s).portLog = .binRead req a :: s.portLog)) ∧
  (∀ s : State, s.WorkOk → InternalStepFrame s (rcdStep s))

/-- R210, R212, R213: the internal step that raises an error leaves the ERROR state, counts what was consumed, keeps
COEF from maxN on, and no step follows it. -/
def Obligations.DecodingErrorIsPrecise : Prop :=
  ∀ s : State, s.busy = true → s.err = false → (rcdStep s).err = true →
    (rcdStep s).busy = false ∧ (rcdStep s).done = s.done ∧ (rcdStep s).ovr = s.ovr ∧
    ((rcdStep s).errCode = 3 ∨ (rcdStep s).errCode = 4 ∨ (rcdStep s).errCode = 5) ∧ (rcdStep s).errSe ≠ 0 ∧
    (rcdStep s).resCount = BitVec.ofNat 32 (rcdStep s).work.count ∧ (rcdStep s).cmd = s.cmd ∧
    (rcdStep s).irq = ((s.done && s.ieDone) || s.ieErr) ∧ rcdStep (rcdStep s) = rcdStep s ∧
    ∀ (k : Nat) (h : k < 64), s.maxNum ≤ k → (rcdStep s).coef[k] = s.coef[k]

/-! ## Host reads and writes -/

/-- R187: a write to STATUS clears the W1C flags written 1, with ERR also ERRCODE and ERRINFO, and nothing else. -/
def Obligations.StatusWriteClears : Prop :=
  ∀ (w : Word) (s : State), s.inReset = false →
    hostAccess (.write 0x008 4 w) s = .next { s with
      resp := some .done
      done := s.done && !w.getLsbD 1
      ovr := s.ovr && !w.getLsbD 3
      err := s.err && !w.getLsbD 2
      errCode := if w.getLsbD 2 && s.err then 0 else s.errCode
      errSe := if w.getLsbD 2 && s.err then 0 else s.errSe
      errIdx := if w.getLsbD 2 && s.err then 0 else s.errIdx }

/-- R186, R232: a write to CTRL sets the enables at once in every state, and with bit 31 performs a soft reset that
keeps them, abandons an executing command and leaves IDLE. -/
def Obligations.CtrlWriteAndSoftReset : Prop :=
  ∀ (w : Word) (s : State), s.inReset = false →
    ∃ t, hostAccess (.write 0x004 4 w) s = .next t ∧ t.ieDone = w.getLsbD 0 ∧ t.ieErr = w.getLsbD 1 ∧
      SamePorts s t ∧ t.resp = some .done ∧
      (w.getLsbD 31 = false →
        t = { s with resp := some .done, ieDone := w.getLsbD 0, ieErr := w.getLsbD 1 }) ∧
      (w.getLsbD 31 = true →
        t.statusWord = 0 ∧ t.errInfoWord = 0 ∧ t.cmd = 0 ∧ t.resTc = 0 ∧ t.resT1 = 0 ∧ t.resTz = 0 ∧
        t.resNumCoeff = 0 ∧ t.resCbf = 0 ∧ t.resCount = 0 ∧ t.irq = false ∧ rcdStep t = t ∧
        ∀ (k : Nat) (h : k < 64), s.busy = false ∨ s.maxNum ≤ k → t.coef[k] = s.coef[k])

/-- R188: a host write to any other register, or to an unmapped offset, changes no state. -/
def Obligations.OtherHostWritesIgnored : Prop :=
  ∀ (off : BitVec 9) (w : Word) (s : State), s.inReset = false → off.toNat % 4 = 0 →
    off ≠ 0x004 → off ≠ 0x008 → off ≠ 0x00C →
    hostAccess (.write off 4 w) s = .next { s with resp := some .done }

/-- R51: an access that is not a whole aligned word gets a bus error and changes nothing; an aligned one never does. -/
def Obligations.BusErrorExactlyWhenMisaligned : Prop :=
  ∀ (off : BitVec 9) (size : Nat) (w : Word) (s : State), s.inReset = false →
    (off.toNat % 4 ≠ 0 ∨ size ≠ 4 →
      hostAccess (.read off size) s = .next { s with resp := some .busError } ∧
      hostAccess (.write off size w) s = .next { s with resp := some .busError }) ∧
    (off.toNat % 4 = 0 → size = 4 →
      (∃ t d, hostAccess (.read off size) s = .next t ∧ t.resp = some (.data d)) ∧
      (∃ t, hostAccess (.write off size w) s = .next t ∧ t.resp = some .done))

/-- R21, R33: ID reads as its constant and an unmapped offset as 0, in every state, and writes to them are ignored. -/
def Obligations.IdAndUnmappedOffsets : Prop :=
  ∀ (s : State) (w : Word), s.inReset = false →
    hostAccess (.read 0x000 4) s = .next { s with resp := some (.data 0x52434401#32) } ∧
    hostAccess (.write 0x000 4 w) s = .next { s with resp := some .done } ∧
    ∀ off : BitVec 9, off.toNat % 4 = 0 → 0x02C ≤ off.toNat → off.toNat ≤ 0x0FC →
      hostAccess (.read off 4) s = .next { s with resp := some (.data 0) } ∧
      hostAccess (.write off 4 w) s = .next { s with resp := some .done }

/-- R22 to R25: what CTRL, STATUS, CMD and ERRINFO read as, field by field, in every state. -/
def Obligations.ControlRegisterReads : Prop :=
  ∀ s : State, s.inReset = false →
    (∃ d : Word, hostAccess (.read 0x004 4) s = .next { s with resp := some (.data d) } ∧
      d.getLsbD 0 = s.ieDone ∧ d.getLsbD 1 = s.ieErr ∧ d.extractLsb' 2 30 = 0) ∧
    (∃ d : Word, hostAccess (.read 0x008 4) s = .next { s with resp := some (.data d) } ∧
      d.getLsbD 0 = s.busy ∧ d.getLsbD 1 = s.done ∧ d.getLsbD 2 = s.err ∧ d.getLsbD 3 = s.ovr ∧
      d.extractLsb' 4 4 = 0 ∧ d.extractLsb' 8 4 = s.errCode ∧ d.extractLsb' 12 20 = 0) ∧
    hostAccess (.read 0x00C 4) s = .next { s with resp := some (.data s.cmd) } ∧
    (∃ d : Word, hostAccess (.read 0x010 4) s = .next { s with resp := some (.data d) } ∧
      d.extractLsb' 0 8 = s.errSe ∧ d.extractLsb' 8 8 = s.errIdx ∧ d.extractLsb' 16 16 = 0)

/-- R26 to R32, R34, R189: the result registers and COEF read as they stand when not BUSY; while BUSY each read of them,
and of COEF below maxN, is a fresh free value (log entry 5), and COEF from maxN on reads as it stands. -/
def Obligations.ResultRegisterReads : Prop :=
  ∀ s : State, s.inReset = false →
    (s.busy = false →
      hostAccess (.read 0x014 4) s = .next { s with resp := some (.data s.resTc) } ∧
      hostAccess (.read 0x018 4) s = .next { s with resp := some (.data s.resT1) } ∧
      hostAccess (.read 0x01C 4) s = .next { s with resp := some (.data s.resTz) } ∧
      hostAccess (.read 0x020 4) s = .next { s with resp := some (.data s.resNumCoeff) } ∧
      hostAccess (.read 0x024 4) s = .next { s with resp := some (.data s.resCbf) } ∧
      hostAccess (.read 0x028 4) s = .next { s with resp := some (.data s.resCount) }) ∧
    (s.busy = true → ∀ off : BitVec 9, off.toNat % 4 = 0 → 0x014 ≤ off.toNat → off.toNat ≤ 0x028 →
      hostAccess (.read off 4) s =
        .next { s with resp := some (.data (Config.freeWord s.draws)), draws := s.draws + 1 }) ∧
    (∀ (k : Nat) (h : k < 64),
      (s.busy = false ∨ s.maxNum ≤ k →
        hostAccess (.read (BitVec.ofNat 9 (0x100 + 4 * k)) 4) s = .next { s with resp := some (.data s.coef[k]) }) ∧
      (s.busy = true → k < s.maxNum →
        hostAccess (.read (BitVec.ofNat 9 (0x100 + 4 * k)) 4) s =
          .next { s with resp := some (.data (Config.freeWord s.draws)), draws := s.draws + 1 }))

/-- R53, R61: a host read between two internal steps does not change what the RCD does, as long as no free value is
drawn for an error. -/
def Obligations.HostReadDoesNotDisturb : Prop :=
  ∀ (off : BitVec 9) (size : Nat) (s : State), s.err = false → (rcdStep s).err = false →
    ∃ r d, rcdStep (hostRead off size s) = { rcdStep s with resp := r, draws := d }

/-- R220: irq follows CTRL and STATUS writes and reset at once. -/
def Obligations.IrqFollowsWrites : Prop :=
  ∀ (w : Word) (s t : State), s.inReset = false →
    (hostAccess (.write 0x004 4 w) s = .next t →
      t.irq = (!w.getLsbD 31 && ((s.done && w.getLsbD 0) || (s.err && w.getLsbD 1)))) ∧
    (hostAccess (.write 0x008 4 w) s = .next t →
      t.irq = ((s.done && !w.getLsbD 1 && s.ieDone) || (s.err && !w.getLsbD 2 && s.ieErr))) ∧
    (resetInput true s).irq = false

/-! ## Reset -/

/-- R230: the reset input puts every register but COEF at its reset value and keeps what was consumed; while it is
asserted no host access is answered and no step is taken; released, the RCD is IDLE. -/
def Obligations.HardReset : Prop :=
  (∀ (s : State) (rest : List Event), s.env = .reset true :: rest →
    ∃ t, step s = .next t ∧ RegistersAtReset t ∧ t.inReset = true ∧ SamePorts s t ∧ t.env = rest) ∧
  (∀ (s : State) (rest : List Event), s.inReset = true →
    (s.env = [] → step s = .next s) ∧
    (s.env = .rcd :: rest → step s = .next { s with env := rest }) ∧
    (∀ a, s.env = .host a :: rest → step s = .next { s with env := rest, resp := none }) ∧
    (s.env = .reset false :: rest → step s = .next { s with env := rest, inReset := false })) ∧
  (∀ (s t u : State) (rest : List Event), s.env = .reset true :: .reset false :: rest → step s = .next t →
    step t = .next u → u.Ready ∧ RegistersAtReset u ∧ u.env = rest)

/-- R230, R231: the model's state after reset: IDLE, every register but COEF at the value of R230's table. The zeros in
COEF and in the internal registers are the model's choice (log entries 3 and 4) and are not claimed here. -/
def Obligations.ResetStateIsIdle : Prop :=
  RegistersAtReset State.reset ∧ State.reset.Ready ∧ State.reset.work.phase = .idle ∧
  step State.reset = .next State.reset

/-! ## Invariants -/

/-- R23: every step keeps the invariants of STATUS and ERRINFO. -/
def Obligations.StepKeepsFlagInvariants : Prop :=
  ∀ s t : State, s.FlagsOk → step s = .next t → t.FlagsOk

/-- R40, R118, R161, R193: every step keeps every internal register within its range, and the registers of the command
consistent with its phase. The ranges are those of R40 but for two: `binIdx` up to 73, which the last increment of R157
reaches after bin 72 (log entry 21), and `numCoeff` from 0, for a block that is not coded (log entry 11). -/
def Obligations.StepKeepsRegistersInRange : Prop :=
  ∀ s t : State, s.WorkOk → step s = .next t → t.WorkOk

/-- R31, R250: every step keeps what a command consumes, and RES_COUNT, within 4862. -/
def Obligations.StepKeepsConsumptionBound : Prop :=
  ∀ s t : State, s.CountOk → step s = .next t → t.CountOk

/-- R23, R31: the invariants of STATUS and ERRINFO and the bound on RES_COUNT hold after reset. That the internal
registers are within their ranges and idle there is the model's choice: R41 leaves them unspecified, and State.reset has
them zero (log entry 4). -/
def Obligations.ResetMeetsInvariants : Prop := State.reset.FlagsOk ∧ State.reset.CountOk

/-! ## Rules about the whole machine -/

/-- R22, R186, R230: the interrupt enables change only by a write to CTRL, to its bits 0 and 1, or by a hard reset. -/
def Obligations.EnablesChangeOnlyByCtrlOrReset : Prop :=
  ∀ s t : State, step s = .next t →
    (t.ieDone = s.ieDone ∧ t.ieErr = s.ieErr) ∨
    (∃ w, s.env.head? = writeEvent 0x004 w ∧ t.ieDone = w.getLsbD 0 ∧ t.ieErr = w.getLsbD 1) ∨
    (s.env.head? = some (.reset true) ∧ t.ieDone = false ∧ t.ieErr = false)

/-- R38, R183: OVR is set only by a dropped write to CMD and cleared only by W1C, soft reset or hard reset. -/
def Obligations.OverrunFlagChanges : Prop :=
  ∀ s t : State, step s = .next t →
    t.ovr = s.ovr ∨
    (t.ovr = true ∧ (s.busy = true ∨ s.err = true) ∧ ∃ w, s.env.head? = writeEvent 0x00C w) ∨
    (t.ovr = false ∧ ((∃ w, s.env.head? = writeEvent 0x008 w ∧ w.getLsbD 3 = true) ∨
      (∃ w, s.env.head? = writeEvent 0x004 w ∧ w.getLsbD 31 = true) ∨ s.env.head? = some (.reset true)))

/-- R24, R182: CMD changes only to a word that is accepted, or to 0 by soft or hard reset; and every word written whole
to CMD in an IDLE state out of reset, legal or not, is in CMD after the step. -/
def Obligations.CmdHoldsLastAcceptedWord : Prop :=
  ∀ s t : State, step s = .next t →
    (t.cmd = s.cmd ∨
      (∃ w, s.env.head? = writeEvent 0x00C w ∧ s.Ready ∧ t.cmd = w) ∨
      (t.cmd = 0 ∧ ((∃ w, s.env.head? = writeEvent 0x004 w ∧ w.getLsbD 31 = true) ∨
        s.env.head? = some (.reset true)))) ∧
    (∀ w, s.Ready → s.env.head? = writeEvent 0x00C w → t.cmd = w)

/-- R214, R215: the ERROR state keeps its one error, and no port is used, until W1C of ERR, soft reset or hard reset. -/
def Obligations.ErrorStateIsSticky : Prop :=
  ∀ s t : State, s.FlagsOk → s.err = true → step s = .next t →
    SamePorts s t ∧
    ((t.err = true ∧ t.busy = false ∧ t.errCode = s.errCode ∧ t.errSe = s.errSe ∧ t.errIdx = s.errIdx ∧
        t.cmd = s.cmd ∧ t.resCount = s.resCount ∧ SameResults s t) ∨
     (t.err = false ∧ t.busy = false ∧ t.errCode = 0 ∧ t.errSe = 0 ∧ t.errIdx = 0 ∧
       ((∃ w, s.env.head? = writeEvent 0x008 w ∧ w.getLsbD 2 = true ∧ t.ieErr = s.ieErr) ∨
        (∃ w, s.env.head? = writeEvent 0x004 w ∧ w.getLsbD 31 = true) ∨ s.env.head? = some (.reset true))))

/-- R62, R241, R243: once BUSY is 0 the results stay until the next word is accepted or a reset. -/
def Obligations.ResultsAreFinalOnceNotBusy : Prop :=
  ∀ s t : State, s.busy = false → step s = .next t →
    (∀ w, s.env.head? = writeEvent 0x00C w → s.err = true) →
    (∀ w, s.env.head? = writeEvent 0x004 w → w.getLsbD 31 = false) → s.env.head? ≠ some (.reset true) →
    SameResults s t ∧ t.resCount = s.resCount ∧ SamePorts s t ∧ t.busy = false

/-! ## A step runs the decoded command -/

/-- R182, R183: when the next event is a write of a command word to CMD, step is exec of the command it decodes to,
the write being answered and taken off the events; of a word that is no command, the ILLEGAL_COMMAND acceptance; and
`withFetchWord` places such a write. -/
def Obligations.StepRunsDecodedCommand : Prop :=
  (∀ (s : State) (w : Word) (rest : List Event), s.inReset = false → s.env = .host (.write 0x00C 4 w) :: rest →
    (∀ i, decode w = .ok i → step s = exec i { s with env := rest, resp := some .done }) ∧
    (∀ e, decode w = .illegal e → step s = .next (submitIllegal w { s with env := rest, resp := some .done }))) ∧
  (∀ (s : State) (w : Word) (i : Instr), decode w = .ok i →
    step (s.withFetchWord 32 w.toNat) =
      exec i { s with inReset := false, busy := false, err := false, resp := some .done })
end

