-- ==== Sys2Proof/Laws/State.lean ====
section
/-! SUPPORT. What each named operation does to each field of the state, one lemma a field, so that no proof unfolds
a record update. -/

namespace Sys2Proof.Machine

@[simp] theorem toPhase_ieDone (p : Phase) (s : State) :
    (toPhase p s).ieDone = s.ieDone := rfl
@[simp] theorem toPhase_ieErr (p : Phase) (s : State) :
    (toPhase p s).ieErr = s.ieErr := rfl
@[simp] theorem toPhase_busy (p : Phase) (s : State) :
    (toPhase p s).busy = s.busy := rfl
@[simp] theorem toPhase_done (p : Phase) (s : State) :
    (toPhase p s).done = s.done := rfl
@[simp] theorem toPhase_err (p : Phase) (s : State) :
    (toPhase p s).err = s.err := rfl
@[simp] theorem toPhase_ovr (p : Phase) (s : State) :
    (toPhase p s).ovr = s.ovr := rfl
@[simp] theorem toPhase_errCode (p : Phase) (s : State) :
    (toPhase p s).errCode = s.errCode := rfl
@[simp] theorem toPhase_errSe (p : Phase) (s : State) :
    (toPhase p s).errSe = s.errSe := rfl
@[simp] theorem toPhase_errIdx (p : Phase) (s : State) :
    (toPhase p s).errIdx = s.errIdx := rfl
@[simp] theorem toPhase_cmd (p : Phase) (s : State) :
    (toPhase p s).cmd = s.cmd := rfl
@[simp] theorem toPhase_resTc (p : Phase) (s : State) :
    (toPhase p s).resTc = s.resTc := rfl
@[simp] theorem toPhase_resT1 (p : Phase) (s : State) :
    (toPhase p s).resT1 = s.resT1 := rfl
@[simp] theorem toPhase_resTz (p : Phase) (s : State) :
    (toPhase p s).resTz = s.resTz := rfl
@[simp] theorem toPhase_resNumCoeff (p : Phase) (s : State) :
    (toPhase p s).resNumCoeff = s.resNumCoeff := rfl
@[simp] theorem toPhase_resCbf (p : Phase) (s : State) :
    (toPhase p s).resCbf = s.resCbf := rfl
@[simp] theorem toPhase_resCount (p : Phase) (s : State) :
    (toPhase p s).resCount = s.resCount := rfl
@[simp] theorem toPhase_coef (p : Phase) (s : State) :
    (toPhase p s).coef = s.coef := rfl
@[simp] theorem toPhase_work (p : Phase) (s : State) :
    (toPhase p s).work = { s.work with phase := p } := rfl
@[simp] theorem toPhase_inReset (p : Phase) (s : State) :
    (toPhase p s).inReset = s.inReset := rfl
@[simp] theorem toPhase_bits (p : Phase) (s : State) :
    (toPhase p s).bits = s.bits := rfl
@[simp] theorem toPhase_bins (p : Phase) (s : State) :
    (toPhase p s).bins = s.bins := rfl
@[simp] theorem toPhase_env (p : Phase) (s : State) :
    (toPhase p s).env = s.env := rfl
@[simp] theorem toPhase_resp (p : Phase) (s : State) :
    (toPhase p s).resp = s.resp := rfl
@[simp] theorem toPhase_portLog (p : Phase) (s : State) :
    (toPhase p s).portLog = s.portLog := rfl
@[simp] theorem toPhase_draws (p : Phase) (s : State) :
    (toPhase p s).draws = s.draws := rfl

@[simp] theorem latch_ieDone (w : Word) (s : State) :
    (latch w s).ieDone = s.ieDone := rfl
@[simp] theorem latch_ieErr (w : Word) (s : State) :
    (latch w s).ieErr = s.ieErr := rfl
@[simp] theorem latch_busy (w : Word) (s : State) :
    (latch w s).busy = true := rfl
@[simp] theorem latch_done (w : Word) (s : State) :
    (latch w s).done = s.done := rfl
@[simp] theorem latch_err (w : Word) (s : State) :
    (latch w s).err = s.err := rfl
@[simp] theorem latch_ovr (w : Word) (s : State) :
    (latch w s).ovr = s.ovr := rfl
@[simp] theorem latch_errCode (w : Word) (s : State) :
    (latch w s).errCode = s.errCode := rfl
@[simp] theorem latch_errSe (w : Word) (s : State) :
    (latch w s).errSe = s.errSe := rfl
@[simp] theorem latch_errIdx (w : Word) (s : State) :
    (latch w s).errIdx = s.errIdx := rfl
@[simp] theorem latch_cmd (w : Word) (s : State) :
    (latch w s).cmd = s.cmd := rfl
@[simp] theorem latch_resTc (w : Word) (s : State) :
    (latch w s).resTc = s.resTc := rfl
@[simp] theorem latch_resT1 (w : Word) (s : State) :
    (latch w s).resT1 = s.resT1 := rfl
@[simp] theorem latch_resTz (w : Word) (s : State) :
    (latch w s).resTz = s.resTz := rfl
@[simp] theorem latch_resNumCoeff (w : Word) (s : State) :
    (latch w s).resNumCoeff = s.resNumCoeff := rfl
@[simp] theorem latch_resCbf (w : Word) (s : State) :
    (latch w s).resCbf = s.resCbf := rfl
@[simp] theorem latch_resCount (w : Word) (s : State) :
    (latch w s).resCount = s.resCount := rfl
@[simp] theorem latch_coef (w : Word) (s : State) :
    (latch w s).coef = s.coef := rfl
@[simp] theorem latch_inReset (w : Word) (s : State) :
    (latch w s).inReset = s.inReset := rfl
@[simp] theorem latch_bits (w : Word) (s : State) :
    (latch w s).bits = s.bits := rfl
@[simp] theorem latch_bins (w : Word) (s : State) :
    (latch w s).bins = s.bins := rfl
@[simp] theorem latch_env (w : Word) (s : State) :
    (latch w s).env = s.env := rfl
@[simp] theorem latch_resp (w : Word) (s : State) :
    (latch w s).resp = s.resp := rfl
@[simp] theorem latch_portLog (w : Word) (s : State) :
    (latch w s).portLog = s.portLog := rfl
@[simp] theorem latch_draws (w : Word) (s : State) :
    (latch w s).draws = s.draws := rfl

@[simp] theorem freeCoefs_ieDone (n : Nat) (s : State) :
    (freeCoefs n s).ieDone = s.ieDone := by simp only [freeCoefs]
@[simp] theorem freeCoefs_ieErr (n : Nat) (s : State) :
    (freeCoefs n s).ieErr = s.ieErr := by simp only [freeCoefs]
@[simp] theorem freeCoefs_busy (n : Nat) (s : State) :
    (freeCoefs n s).busy = s.busy := by simp only [freeCoefs]
@[simp] theorem freeCoefs_done (n : Nat) (s : State) :
    (freeCoefs n s).done = s.done := by simp only [freeCoefs]
@[simp] theorem freeCoefs_err (n : Nat) (s : State) :
    (freeCoefs n s).err = s.err := by simp only [freeCoefs]
@[simp] theorem freeCoefs_ovr (n : Nat) (s : State) :
    (freeCoefs n s).ovr = s.ovr := by simp only [freeCoefs]
@[simp] theorem freeCoefs_errCode (n : Nat) (s : State) :
    (freeCoefs n s).errCode = s.errCode := by simp only [freeCoefs]
@[simp] theorem freeCoefs_errSe (n : Nat) (s : State) :
    (freeCoefs n s).errSe = s.errSe := by simp only [freeCoefs]
@[simp] theorem freeCoefs_errIdx (n : Nat) (s : State) :
    (freeCoefs n s).errIdx = s.errIdx := by simp only [freeCoefs]
@[simp] theorem freeCoefs_cmd (n : Nat) (s : State) :
    (freeCoefs n s).cmd = s.cmd := by simp only [freeCoefs]
@[simp] theorem freeCoefs_resTc (n : Nat) (s : State) :
    (freeCoefs n s).resTc = s.resTc := by simp only [freeCoefs]
@[simp] theorem freeCoefs_resT1 (n : Nat) (s : State) :
    (freeCoefs n s).resT1 = s.resT1 := by simp only [freeCoefs]
@[simp] theorem freeCoefs_resTz (n : Nat) (s : State) :
    (freeCoefs n s).resTz = s.resTz := by simp only [freeCoefs]
@[simp] theorem freeCoefs_resNumCoeff (n : Nat) (s : State) :
    (freeCoefs n s).resNumCoeff = s.resNumCoeff := by simp only [freeCoefs]
@[simp] theorem freeCoefs_resCbf (n : Nat) (s : State) :
    (freeCoefs n s).resCbf = s.resCbf := by simp only [freeCoefs]
@[simp] theorem freeCoefs_resCount (n : Nat) (s : State) :
    (freeCoefs n s).resCount = s.resCount := by simp only [freeCoefs]
@[simp] theorem freeCoefs_work (n : Nat) (s : State) :
    (freeCoefs n s).work = s.work := by simp only [freeCoefs]
@[simp] theorem freeCoefs_inReset (n : Nat) (s : State) :
    (freeCoefs n s).inReset = s.inReset := by simp only [freeCoefs]
@[simp] theorem freeCoefs_bits (n : Nat) (s : State) :
    (freeCoefs n s).bits = s.bits := by simp only [freeCoefs]
@[simp] theorem freeCoefs_bins (n : Nat) (s : State) :
    (freeCoefs n s).bins = s.bins := by simp only [freeCoefs]
@[simp] theorem freeCoefs_env (n : Nat) (s : State) :
    (freeCoefs n s).env = s.env := by simp only [freeCoefs]
@[simp] theorem freeCoefs_resp (n : Nat) (s : State) :
    (freeCoefs n s).resp = s.resp := by simp only [freeCoefs]
@[simp] theorem freeCoefs_portLog (n : Nat) (s : State) :
    (freeCoefs n s).portLog = s.portLog := by simp only [freeCoefs]
@[simp] theorem freeCoefs_draws (n : Nat) (s : State) :
    (freeCoefs n s).draws = s.draws + 64 := by simp only [freeCoefs]

@[simp] theorem freeResults_ieDone (s : State) :
    (freeResults s).ieDone = s.ieDone := rfl
@[simp] theorem freeResults_ieErr (s : State) :
    (freeResults s).ieErr = s.ieErr := rfl
@[simp] theorem freeResults_busy (s : State) :
    (freeResults s).busy = s.busy := rfl
@[simp] theorem freeResults_done (s : State) :
    (freeResults s).done = s.done := rfl
@[simp] theorem freeResults_err (s : State) :
    (freeResults s).err = s.err := rfl
@[simp] theorem freeResults_ovr (s : State) :
    (freeResults s).ovr = s.ovr := rfl
@[simp] theorem freeResults_errCode (s : State) :
    (freeResults s).errCode = s.errCode := rfl
@[simp] theorem freeResults_errSe (s : State) :
    (freeResults s).errSe = s.errSe := rfl
@[simp] theorem freeResults_errIdx (s : State) :
    (freeResults s).errIdx = s.errIdx := rfl
@[simp] theorem freeResults_cmd (s : State) :
    (freeResults s).cmd = s.cmd := rfl
@[simp] theorem freeResults_resTc (s : State) :
    (freeResults s).resTc = Config.freeWord s.draws := rfl
@[simp] theorem freeResults_resT1 (s : State) :
    (freeResults s).resT1 = Config.freeWord (s.draws + 1) := rfl
@[simp] theorem freeResults_resTz (s : State) :
    (freeResults s).resTz = Config.freeWord (s.draws + 2) := rfl
@[simp] theorem freeResults_resNumCoeff (s : State) :
    (freeResults s).resNumCoeff = Config.freeWord (s.draws + 3) := rfl
@[simp] theorem freeResults_resCbf (s : State) :
    (freeResults s).resCbf = Config.freeWord (s.draws + 4) := rfl
@[simp] theorem freeResults_resCount (s : State) :
    (freeResults s).resCount = s.resCount := rfl
@[simp] theorem freeResults_coef (s : State) :
    (freeResults s).coef = s.coef := rfl
@[simp] theorem freeResults_work (s : State) :
    (freeResults s).work = s.work := rfl
@[simp] theorem freeResults_inReset (s : State) :
    (freeResults s).inReset = s.inReset := rfl
@[simp] theorem freeResults_bits (s : State) :
    (freeResults s).bits = s.bits := rfl
@[simp] theorem freeResults_bins (s : State) :
    (freeResults s).bins = s.bins := rfl
@[simp] theorem freeResults_env (s : State) :
    (freeResults s).env = s.env := rfl
@[simp] theorem freeResults_resp (s : State) :
    (freeResults s).resp = s.resp := rfl
@[simp] theorem freeResults_portLog (s : State) :
    (freeResults s).portLog = s.portLog := rfl
@[simp] theorem freeResults_draws (s : State) :
    (freeResults s).draws = s.draws + 5 := rfl

@[simp] theorem enterError_ieDone (c : ErrorCode) (se : SyntaxElement) (idx : Nat) (s : State) :
    (enterError c se idx s).ieDone = s.ieDone := rfl
@[simp] theorem enterError_ieErr (c : ErrorCode) (se : SyntaxElement) (idx : Nat) (s : State) :
    (enterError c se idx s).ieErr = s.ieErr := rfl
@[simp] theorem enterError_busy (c : ErrorCode) (se : SyntaxElement) (idx : Nat) (s : State) :
    (enterError c se idx s).busy = false := rfl
@[simp] theorem enterError_done (c : ErrorCode) (se : SyntaxElement) (idx : Nat) (s : State) :
    (enterError c se idx s).done = s.done := rfl
@[simp] theorem enterError_err (c : ErrorCode) (se : SyntaxElement) (idx : Nat) (s : State) :
    (enterError c se idx s).err = true := rfl
@[simp] theorem enterError_ovr (c : ErrorCode) (se : SyntaxElement) (idx : Nat) (s : State) :
    (enterError c se idx s).ovr = s.ovr := rfl
@[simp] theorem enterError_errCode (c : ErrorCode) (se : SyntaxElement) (idx : Nat) (s : State) :
    (enterError c se idx s).errCode = c.code := rfl
@[simp] theorem enterError_errSe (c : ErrorCode) (se : SyntaxElement) (idx : Nat) (s : State) :
    (enterError c se idx s).errSe = BitVec.ofNat 8 se.code := rfl
@[simp] theorem enterError_errIdx (c : ErrorCode) (se : SyntaxElement) (idx : Nat) (s : State) :
    (enterError c se idx s).errIdx = BitVec.ofNat 8 idx := rfl
@[simp] theorem enterError_cmd (c : ErrorCode) (se : SyntaxElement) (idx : Nat) (s : State) :
    (enterError c se idx s).cmd = s.cmd := rfl
@[simp] theorem enterError_resTc (c : ErrorCode) (se : SyntaxElement) (idx : Nat) (s : State) :
    (enterError c se idx s).resTc = s.resTc := rfl
@[simp] theorem enterError_resT1 (c : ErrorCode) (se : SyntaxElement) (idx : Nat) (s : State) :
    (enterError c se idx s).resT1 = s.resT1 := rfl
@[simp] theorem enterError_resTz (c : ErrorCode) (se : SyntaxElement) (idx : Nat) (s : State) :
    (enterError c se idx s).resTz = s.resTz := rfl
@[simp] theorem enterError_resNumCoeff (c : ErrorCode) (se : SyntaxElement) (idx : Nat) (s : State) :
    (enterError c se idx s).resNumCoeff = s.resNumCoeff := rfl
@[simp] theorem enterError_resCbf (c : ErrorCode) (se : SyntaxElement) (idx : Nat) (s : State) :
    (enterError c se idx s).resCbf = s.resCbf := rfl
@[simp] theorem enterError_resCount (c : ErrorCode) (se : SyntaxElement) (idx : Nat) (s : State) :
    (enterError c se idx s).resCount = s.resCount := rfl
@[simp] theorem enterError_coef (c : ErrorCode) (se : SyntaxElement) (idx : Nat) (s : State) :
    (enterError c se idx s).coef = s.coef := rfl
@[simp] theorem enterError_work (c : ErrorCode) (se : SyntaxElement) (idx : Nat) (s : State) :
    (enterError c se idx s).work = { s.work with phase := .idle } := rfl
@[simp] theorem enterError_inReset (c : ErrorCode) (se : SyntaxElement) (idx : Nat) (s : State) :
    (enterError c se idx s).inReset = s.inReset := rfl
@[simp] theorem enterError_bits (c : ErrorCode) (se : SyntaxElement) (idx : Nat) (s : State) :
    (enterError c se idx s).bits = s.bits := rfl
@[simp] theorem enterError_bins (c : ErrorCode) (se : SyntaxElement) (idx : Nat) (s : State) :
    (enterError c se idx s).bins = s.bins := rfl
@[simp] theorem enterError_env (c : ErrorCode) (se : SyntaxElement) (idx : Nat) (s : State) :
    (enterError c se idx s).env = s.env := rfl
@[simp] theorem enterError_resp (c : ErrorCode) (se : SyntaxElement) (idx : Nat) (s : State) :
    (enterError c se idx s).resp = s.resp := rfl
@[simp] theorem enterError_portLog (c : ErrorCode) (se : SyntaxElement) (idx : Nat) (s : State) :
    (enterError c se idx s).portLog = s.portLog := rfl
@[simp] theorem enterError_draws (c : ErrorCode) (se : SyntaxElement) (idx : Nat) (s : State) :
    (enterError c se idx s).draws = s.draws := rfl

@[simp] theorem raiseDecode_ieDone (c : ErrorCode) (se : SyntaxElement) (idx : Nat) (s : State) :
    (raiseDecode c se idx s).ieDone = s.ieDone := by simp [raiseDecode, State.maxNum]
@[simp] theorem raiseDecode_ieErr (c : ErrorCode) (se : SyntaxElement) (idx : Nat) (s : State) :
    (raiseDecode c se idx s).ieErr = s.ieErr := by simp [raiseDecode, State.maxNum]
@[simp] theorem raiseDecode_busy (c : ErrorCode) (se : SyntaxElement) (idx : Nat) (s : State) :
    (raiseDecode c se idx s).busy = false := by simp [raiseDecode, State.maxNum]
@[simp] theorem raiseDecode_done (c : ErrorCode) (se : SyntaxElement) (idx : Nat) (s : State) :
    (raiseDecode c se idx s).done = s.done := by simp [raiseDecode, State.maxNum]
@[simp] theorem raiseDecode_err (c : ErrorCode) (se : SyntaxElement) (idx : Nat) (s : State) :
    (raiseDecode c se idx s).err = true := by simp [raiseDecode, State.maxNum]
@[simp] theorem raiseDecode_ovr (c : ErrorCode) (se : SyntaxElement) (idx : Nat) (s : State) :
    (raiseDecode c se idx s).ovr = s.ovr := by simp [raiseDecode, State.maxNum]
@[simp] theorem raiseDecode_errCode (c : ErrorCode) (se : SyntaxElement) (idx : Nat) (s : State) :
    (raiseDecode c se idx s).errCode = c.code := by simp [raiseDecode, State.maxNum]
@[simp] theorem raiseDecode_errSe (c : ErrorCode) (se : SyntaxElement) (idx : Nat) (s : State) :
    (raiseDecode c se idx s).errSe = BitVec.ofNat 8 se.code := by simp [raiseDecode, State.maxNum]
@[simp] theorem raiseDecode_errIdx (c : ErrorCode) (se : SyntaxElement) (idx : Nat) (s : State) :
    (raiseDecode c se idx s).errIdx = BitVec.ofNat 8 idx := by simp [raiseDecode, State.maxNum]
@[simp] theorem raiseDecode_cmd (c : ErrorCode) (se : SyntaxElement) (idx : Nat) (s : State) :
    (raiseDecode c se idx s).cmd = s.cmd := by simp [raiseDecode, State.maxNum]
@[simp] theorem raiseDecode_resTc (c : ErrorCode) (se : SyntaxElement) (idx : Nat) (s : State) :
    (raiseDecode c se idx s).resTc = Config.freeWord s.draws := by simp [raiseDecode, State.maxNum]
@[simp] theorem raiseDecode_resT1 (c : ErrorCode) (se : SyntaxElement) (idx : Nat) (s : State) :
    (raiseDecode c se idx s).resT1 = Config.freeWord (s.draws + 1) := by simp [raiseDecode, State.maxNum]
@[simp] theorem raiseDecode_resTz (c : ErrorCode) (se : SyntaxElement) (idx : Nat) (s : State) :
    (raiseDecode c se idx s).resTz = Config.freeWord (s.draws + 2) := by simp [raiseDecode, State.maxNum]
@[simp] theorem raiseDecode_resNumCoeff (c : ErrorCode) (se : SyntaxElement) (idx : Nat) (s : State) :
    (raiseDecode c se idx s).resNumCoeff = Config.freeWord (s.draws + 3) := by simp [raiseDecode, State.maxNum]
@[simp] theorem raiseDecode_resCbf (c : ErrorCode) (se : SyntaxElement) (idx : Nat) (s : State) :
    (raiseDecode c se idx s).resCbf = Config.freeWord (s.draws + 4) := by simp [raiseDecode, State.maxNum]
@[simp] theorem raiseDecode_resCount (c : ErrorCode) (se : SyntaxElement) (idx : Nat) (s : State) :
    (raiseDecode c se idx s).resCount = BitVec.ofNat 32 s.work.count := by simp [raiseDecode, State.maxNum]
@[simp] theorem raiseDecode_work (c : ErrorCode) (se : SyntaxElement) (idx : Nat) (s : State) :
    (raiseDecode c se idx s).work = { s.work with phase := .idle } := by simp [raiseDecode, State.maxNum]
@[simp] theorem raiseDecode_inReset (c : ErrorCode) (se : SyntaxElement) (idx : Nat) (s : State) :
    (raiseDecode c se idx s).inReset = s.inReset := by simp [raiseDecode, State.maxNum]
@[simp] theorem raiseDecode_bits (c : ErrorCode) (se : SyntaxElement) (idx : Nat) (s : State) :
    (raiseDecode c se idx s).bits = s.bits := by simp [raiseDecode, State.maxNum]
@[simp] theorem raiseDecode_bins (c : ErrorCode) (se : SyntaxElement) (idx : Nat) (s : State) :
    (raiseDecode c se idx s).bins = s.bins := by simp [raiseDecode, State.maxNum]
@[simp] theorem raiseDecode_env (c : ErrorCode) (se : SyntaxElement) (idx : Nat) (s : State) :
    (raiseDecode c se idx s).env = s.env := by simp [raiseDecode, State.maxNum]
@[simp] theorem raiseDecode_resp (c : ErrorCode) (se : SyntaxElement) (idx : Nat) (s : State) :
    (raiseDecode c se idx s).resp = s.resp := by simp [raiseDecode, State.maxNum]
@[simp] theorem raiseDecode_portLog (c : ErrorCode) (se : SyntaxElement) (idx : Nat) (s : State) :
    (raiseDecode c se idx s).portLog = s.portLog := by simp [raiseDecode, State.maxNum]
@[simp] theorem raiseDecode_draws (c : ErrorCode) (se : SyntaxElement) (idx : Nat) (s : State) :
    (raiseDecode c se idx s).draws = s.draws + 69 := by simp [raiseDecode, State.maxNum]

@[simp] theorem raiseCommand_ieDone (c : ErrorCode) (s : State) :
    (raiseCommand c s).ieDone = s.ieDone := rfl
@[simp] theorem raiseCommand_ieErr (c : ErrorCode) (s : State) :
    (raiseCommand c s).ieErr = s.ieErr := rfl
@[simp] theorem raiseCommand_busy (c : ErrorCode) (s : State) :
    (raiseCommand c s).busy = false := rfl
@[simp] theorem raiseCommand_done (c : ErrorCode) (s : State) :
    (raiseCommand c s).done = s.done := rfl
@[simp] theorem raiseCommand_err (c : ErrorCode) (s : State) :
    (raiseCommand c s).err = true := rfl
@[simp] theorem raiseCommand_ovr (c : ErrorCode) (s : State) :
    (raiseCommand c s).ovr = s.ovr := rfl
@[simp] theorem raiseCommand_errCode (c : ErrorCode) (s : State) :
    (raiseCommand c s).errCode = c.code := rfl
@[simp] theorem raiseCommand_errSe (c : ErrorCode) (s : State) :
    (raiseCommand c s).errSe = 0 := rfl
@[simp] theorem raiseCommand_errIdx (c : ErrorCode) (s : State) :
    (raiseCommand c s).errIdx = 0 := rfl
@[simp] theorem raiseCommand_cmd (c : ErrorCode) (s : State) :
    (raiseCommand c s).cmd = s.cmd := rfl
@[simp] theorem raiseCommand_resTc (c : ErrorCode) (s : State) :
    (raiseCommand c s).resTc = s.resTc := rfl
@[simp] theorem raiseCommand_resT1 (c : ErrorCode) (s : State) :
    (raiseCommand c s).resT1 = s.resT1 := rfl
@[simp] theorem raiseCommand_resTz (c : ErrorCode) (s : State) :
    (raiseCommand c s).resTz = s.resTz := rfl
@[simp] theorem raiseCommand_resNumCoeff (c : ErrorCode) (s : State) :
    (raiseCommand c s).resNumCoeff = s.resNumCoeff := rfl
@[simp] theorem raiseCommand_resCbf (c : ErrorCode) (s : State) :
    (raiseCommand c s).resCbf = s.resCbf := rfl
@[simp] theorem raiseCommand_resCount (c : ErrorCode) (s : State) :
    (raiseCommand c s).resCount = 0 := rfl
@[simp] theorem raiseCommand_coef (c : ErrorCode) (s : State) :
    (raiseCommand c s).coef = s.coef := rfl
@[simp] theorem raiseCommand_work (c : ErrorCode) (s : State) :
    (raiseCommand c s).work = { s.work with phase := .idle } := rfl
@[simp] theorem raiseCommand_inReset (c : ErrorCode) (s : State) :
    (raiseCommand c s).inReset = s.inReset := rfl
@[simp] theorem raiseCommand_bits (c : ErrorCode) (s : State) :
    (raiseCommand c s).bits = s.bits := rfl
@[simp] theorem raiseCommand_bins (c : ErrorCode) (s : State) :
    (raiseCommand c s).bins = s.bins := rfl
@[simp] theorem raiseCommand_env (c : ErrorCode) (s : State) :
    (raiseCommand c s).env = s.env := rfl
@[simp] theorem raiseCommand_resp (c : ErrorCode) (s : State) :
    (raiseCommand c s).resp = s.resp := rfl
@[simp] theorem raiseCommand_portLog (c : ErrorCode) (s : State) :
    (raiseCommand c s).portLog = s.portLog := rfl
@[simp] theorem raiseCommand_draws (c : ErrorCode) (s : State) :
    (raiseCommand c s).draws = s.draws := rfl

@[simp] theorem clearError_ieDone (s : State) :
    (clearError s).ieDone = s.ieDone := rfl
@[simp] theorem clearError_ieErr (s : State) :
    (clearError s).ieErr = s.ieErr := rfl
@[simp] theorem clearError_busy (s : State) :
    (clearError s).busy = s.busy := rfl
@[simp] theorem clearError_done (s : State) :
    (clearError s).done = s.done := rfl
@[simp] theorem clearError_err (s : State) :
    (clearError s).err = false := rfl
@[simp] theorem clearError_ovr (s : State) :
    (clearError s).ovr = s.ovr := rfl
@[simp] theorem clearError_errCode (s : State) :
    (clearError s).errCode = 0 := rfl
@[simp] theorem clearError_errSe (s : State) :
    (clearError s).errSe = 0 := rfl
@[simp] theorem clearError_errIdx (s : State) :
    (clearError s).errIdx = 0 := rfl
@[simp] theorem clearError_cmd (s : State) :
    (clearError s).cmd = s.cmd := rfl
@[simp] theorem clearError_resTc (s : State) :
    (clearError s).resTc = s.resTc := rfl
@[simp] theorem clearError_resT1 (s : State) :
    (clearError s).resT1 = s.resT1 := rfl
@[simp] theorem clearError_resTz (s : State) :
    (clearError s).resTz = s.resTz := rfl
@[simp] theorem clearError_resNumCoeff (s : State) :
    (clearError s).resNumCoeff = s.resNumCoeff := rfl
@[simp] theorem clearError_resCbf (s : State) :
    (clearError s).resCbf = s.resCbf := rfl
@[simp] theorem clearError_resCount (s : State) :
    (clearError s).resCount = s.resCount := rfl
@[simp] theorem clearError_coef (s : State) :
    (clearError s).coef = s.coef := rfl
@[simp] theorem clearError_work (s : State) :
    (clearError s).work = s.work := rfl
@[simp] theorem clearError_inReset (s : State) :
    (clearError s).inReset = s.inReset := rfl
@[simp] theorem clearError_bits (s : State) :
    (clearError s).bits = s.bits := rfl
@[simp] theorem clearError_bins (s : State) :
    (clearError s).bins = s.bins := rfl
@[simp] theorem clearError_env (s : State) :
    (clearError s).env = s.env := rfl
@[simp] theorem clearError_resp (s : State) :
    (clearError s).resp = s.resp := rfl
@[simp] theorem clearError_portLog (s : State) :
    (clearError s).portLog = s.portLog := rfl
@[simp] theorem clearError_draws (s : State) :
    (clearError s).draws = s.draws := rfl

@[simp] theorem complete_ieDone (tc t1 tz n : Nat) (b : Bool) (s : State) :
    (complete tc t1 tz n b s).ieDone = s.ieDone := rfl
@[simp] theorem complete_ieErr (tc t1 tz n : Nat) (b : Bool) (s : State) :
    (complete tc t1 tz n b s).ieErr = s.ieErr := rfl
@[simp] theorem complete_busy (tc t1 tz n : Nat) (b : Bool) (s : State) :
    (complete tc t1 tz n b s).busy = false := rfl
@[simp] theorem complete_done (tc t1 tz n : Nat) (b : Bool) (s : State) :
    (complete tc t1 tz n b s).done = true := rfl
@[simp] theorem complete_err (tc t1 tz n : Nat) (b : Bool) (s : State) :
    (complete tc t1 tz n b s).err = s.err := rfl
@[simp] theorem complete_ovr (tc t1 tz n : Nat) (b : Bool) (s : State) :
    (complete tc t1 tz n b s).ovr = s.ovr := rfl
@[simp] theorem complete_errCode (tc t1 tz n : Nat) (b : Bool) (s : State) :
    (complete tc t1 tz n b s).errCode = s.errCode := rfl
@[simp] theorem complete_errSe (tc t1 tz n : Nat) (b : Bool) (s : State) :
    (complete tc t1 tz n b s).errSe = s.errSe := rfl
@[simp] theorem complete_errIdx (tc t1 tz n : Nat) (b : Bool) (s : State) :
    (complete tc t1 tz n b s).errIdx = s.errIdx := rfl
@[simp] theorem complete_cmd (tc t1 tz n : Nat) (b : Bool) (s : State) :
    (complete tc t1 tz n b s).cmd = s.cmd := rfl
@[simp] theorem complete_resTc (tc t1 tz n : Nat) (b : Bool) (s : State) :
    (complete tc t1 tz n b s).resTc = BitVec.ofNat 32 tc := rfl
@[simp] theorem complete_resT1 (tc t1 tz n : Nat) (b : Bool) (s : State) :
    (complete tc t1 tz n b s).resT1 = BitVec.ofNat 32 t1 := rfl
@[simp] theorem complete_resTz (tc t1 tz n : Nat) (b : Bool) (s : State) :
    (complete tc t1 tz n b s).resTz = BitVec.ofNat 32 tz := rfl
@[simp] theorem complete_resNumCoeff (tc t1 tz n : Nat) (b : Bool) (s : State) :
    (complete tc t1 tz n b s).resNumCoeff = BitVec.ofNat 32 n := rfl
@[simp] theorem complete_resCbf (tc t1 tz n : Nat) (b : Bool) (s : State) :
    (complete tc t1 tz n b s).resCbf = if b then 1 else 0 := rfl
@[simp] theorem complete_resCount (tc t1 tz n : Nat) (b : Bool) (s : State) :
    (complete tc t1 tz n b s).resCount = BitVec.ofNat 32 s.work.count := rfl
@[simp] theorem complete_coef (tc t1 tz n : Nat) (b : Bool) (s : State) :
    (complete tc t1 tz n b s).coef = s.coef := rfl
@[simp] theorem complete_work (tc t1 tz n : Nat) (b : Bool) (s : State) :
    (complete tc t1 tz n b s).work = { s.work with phase := .idle } := rfl
@[simp] theorem complete_inReset (tc t1 tz n : Nat) (b : Bool) (s : State) :
    (complete tc t1 tz n b s).inReset = s.inReset := rfl
@[simp] theorem complete_bits (tc t1 tz n : Nat) (b : Bool) (s : State) :
    (complete tc t1 tz n b s).bits = s.bits := rfl
@[simp] theorem complete_bins (tc t1 tz n : Nat) (b : Bool) (s : State) :
    (complete tc t1 tz n b s).bins = s.bins := rfl
@[simp] theorem complete_env (tc t1 tz n : Nat) (b : Bool) (s : State) :
    (complete tc t1 tz n b s).env = s.env := rfl
@[simp] theorem complete_resp (tc t1 tz n : Nat) (b : Bool) (s : State) :
    (complete tc t1 tz n b s).resp = s.resp := rfl
@[simp] theorem complete_portLog (tc t1 tz n : Nat) (b : Bool) (s : State) :
    (complete tc t1 tz n b s).portLog = s.portLog := rfl
@[simp] theorem complete_draws (tc t1 tz n : Nat) (b : Bool) (s : State) :
    (complete tc t1 tz n b s).draws = s.draws := rfl

@[simp] theorem clearRegisters_ieDone (s : State) :
    (clearRegisters s).ieDone = s.ieDone := rfl
@[simp] theorem clearRegisters_ieErr (s : State) :
    (clearRegisters s).ieErr = s.ieErr := rfl
@[simp] theorem clearRegisters_busy (s : State) :
    (clearRegisters s).busy = false := rfl
@[simp] theorem clearRegisters_done (s : State) :
    (clearRegisters s).done = false := rfl
@[simp] theorem clearRegisters_err (s : State) :
    (clearRegisters s).err = false := rfl
@[simp] theorem clearRegisters_ovr (s : State) :
    (clearRegisters s).ovr = false := rfl
@[simp] theorem clearRegisters_errCode (s : State) :
    (clearRegisters s).errCode = 0 := rfl
@[simp] theorem clearRegisters_errSe (s : State) :
    (clearRegisters s).errSe = 0 := rfl
@[simp] theorem clearRegisters_errIdx (s : State) :
    (clearRegisters s).errIdx = 0 := rfl
@[simp] theorem clearRegisters_cmd (s : State) :
    (clearRegisters s).cmd = 0 := rfl
@[simp] theorem clearRegisters_resTc (s : State) :
    (clearRegisters s).resTc = 0 := rfl
@[simp] theorem clearRegisters_resT1 (s : State) :
    (clearRegisters s).resT1 = 0 := rfl
@[simp] theorem clearRegisters_resTz (s : State) :
    (clearRegisters s).resTz = 0 := rfl
@[simp] theorem clearRegisters_resNumCoeff (s : State) :
    (clearRegisters s).resNumCoeff = 0 := rfl
@[simp] theorem clearRegisters_resCbf (s : State) :
    (clearRegisters s).resCbf = 0 := rfl
@[simp] theorem clearRegisters_resCount (s : State) :
    (clearRegisters s).resCount = 0 := rfl
@[simp] theorem clearRegisters_coef (s : State) :
    (clearRegisters s).coef = s.coef := rfl
@[simp] theorem clearRegisters_work (s : State) :
    (clearRegisters s).work = { s.work with phase := .idle } := rfl
@[simp] theorem clearRegisters_inReset (s : State) :
    (clearRegisters s).inReset = s.inReset := rfl
@[simp] theorem clearRegisters_bits (s : State) :
    (clearRegisters s).bits = s.bits := rfl
@[simp] theorem clearRegisters_bins (s : State) :
    (clearRegisters s).bins = s.bins := rfl
@[simp] theorem clearRegisters_env (s : State) :
    (clearRegisters s).env = s.env := rfl
@[simp] theorem clearRegisters_resp (s : State) :
    (clearRegisters s).resp = s.resp := rfl
@[simp] theorem clearRegisters_portLog (s : State) :
    (clearRegisters s).portLog = s.portLog := rfl
@[simp] theorem clearRegisters_draws (s : State) :
    (clearRegisters s).draws = s.draws := rfl

@[simp] theorem releaseReset_ieDone (s : State) :
    (releaseReset s).ieDone = s.ieDone := rfl
@[simp] theorem releaseReset_ieErr (s : State) :
    (releaseReset s).ieErr = s.ieErr := rfl
@[simp] theorem releaseReset_busy (s : State) :
    (releaseReset s).busy = s.busy := rfl
@[simp] theorem releaseReset_done (s : State) :
    (releaseReset s).done = s.done := rfl
@[simp] theorem releaseReset_err (s : State) :
    (releaseReset s).err = s.err := rfl
@[simp] theorem releaseReset_ovr (s : State) :
    (releaseReset s).ovr = s.ovr := rfl
@[simp] theorem releaseReset_errCode (s : State) :
    (releaseReset s).errCode = s.errCode := rfl
@[simp] theorem releaseReset_errSe (s : State) :
    (releaseReset s).errSe = s.errSe := rfl
@[simp] theorem releaseReset_errIdx (s : State) :
    (releaseReset s).errIdx = s.errIdx := rfl
@[simp] theorem releaseReset_cmd (s : State) :
    (releaseReset s).cmd = s.cmd := rfl
@[simp] theorem releaseReset_resTc (s : State) :
    (releaseReset s).resTc = s.resTc := rfl
@[simp] theorem releaseReset_resT1 (s : State) :
    (releaseReset s).resT1 = s.resT1 := rfl
@[simp] theorem releaseReset_resTz (s : State) :
    (releaseReset s).resTz = s.resTz := rfl
@[simp] theorem releaseReset_resNumCoeff (s : State) :
    (releaseReset s).resNumCoeff = s.resNumCoeff := rfl
@[simp] theorem releaseReset_resCbf (s : State) :
    (releaseReset s).resCbf = s.resCbf := rfl
@[simp] theorem releaseReset_resCount (s : State) :
    (releaseReset s).resCount = s.resCount := rfl
@[simp] theorem releaseReset_coef (s : State) :
    (releaseReset s).coef = s.coef := rfl
@[simp] theorem releaseReset_work (s : State) :
    (releaseReset s).work = s.work := rfl
@[simp] theorem releaseReset_inReset (s : State) :
    (releaseReset s).inReset = false := rfl
@[simp] theorem releaseReset_bits (s : State) :
    (releaseReset s).bits = s.bits := rfl
@[simp] theorem releaseReset_bins (s : State) :
    (releaseReset s).bins = s.bins := rfl
@[simp] theorem releaseReset_env (s : State) :
    (releaseReset s).env = s.env := rfl
@[simp] theorem releaseReset_resp (s : State) :
    (releaseReset s).resp = s.resp := rfl
@[simp] theorem releaseReset_portLog (s : State) :
    (releaseReset s).portLog = s.portLog := rfl
@[simp] theorem releaseReset_draws (s : State) :
    (releaseReset s).draws = s.draws := rfl

/-- The entry of COEF after `freeCoefs`: a free value below `n`, as before from there on. -/
@[simp] theorem freeCoefs_coef (n : Nat) (s : State) (k : Nat) (h : k < 64) :
    (freeCoefs n s).coef[k] = if k < n then Config.freeWord (s.draws + k) else s.coef[k] := by
  simp [freeCoefs]

/-- The entry of COEF after a decoding error. -/
@[simp] theorem raiseDecode_coef (c : ErrorCode) (se : SyntaxElement) (idx : Nat) (s : State) (k : Nat) (h : k < 64) :
    (raiseDecode c se idx s).coef[k] =
      if k < s.maxNum then Config.freeWord (s.draws + 5 + k) else s.coef[k] := by
  rw [show (raiseDecode c se idx s).coef =
    (freeCoefs s.maxNum (freeResults { s with resCount := BitVec.ofNat 32 s.work.count })).coef by
      simp only [raiseDecode, enterError_coef], freeCoefs_coef]
  simp only [freeResults_coef, freeResults_draws]

/-- The entry of COEF after zeroing the positions from `lo` to `hi - 1`. -/
@[simp] theorem zeroRange_get (lo hi : Nat) (coef : Vector Word 64) (k : Nat) (h : k < 64) :
    (zeroRange lo hi coef)[k] = if lo ≤ k ∧ k < hi then 0 else coef[k] := by
  simp [zeroRange]

@[simp] theorem latch_op (w : Word) (s : State) : (latch w s).work.op = opField w := rfl
@[simp] theorem latch_maxN (w : Word) (s : State) : (latch w s).work.maxN = maxNField w := rfl
@[simp] theorem latch_nC (w : Word) (s : State) : (latch w s).work.nC = nCField w := rfl
@[simp] theorem latch_cat (w : Word) (s : State) : (latch w s).work.cat = catField w := rfl
@[simp] theorem latch_count (w : Word) (s : State) : (latch w s).work.count = 0 := rfl
@[simp] theorem latch_phase (w : Word) (s : State) : (latch w s).work.phase = s.work.phase := rfl

end Sys2Proof.Machine
end

