-- ==== Sys2Proof/Laws/Ops.lean ====
section
/-! SUPPORT. What each shared operation can do, said once: the two port reads, the codeword step, the internal step
and its iteration, the acceptance of a command, and one step of the machine. -/

namespace Sys2Proof.Machine

/-- A bit read waits, raises END_OF_STREAM, or goes on with the bit. -/
theorem bitRead_cases (se : SyntaxElement) (idx : Nat) (k : Bool → State → State) (s : State) :
    (s.bits = [] ∧ bitRead se idx k s = s) ∨
    (∃ rest, s.bits = .eos :: rest ∧ bitRead se idx k s =
      raiseDecode .endOfStream se idx { s with bits := rest, portLog := .bitRead .eos :: s.portLog }) ∨
    (∃ b rest, s.bits = .bit b :: rest ∧ bitRead se idx k s =
      k b { s with
        bits := rest
        portLog := .bitRead (.bit b) :: s.portLog
        work := { s.work with count := s.work.count + 1 } }) := by
  rcases h : s.bits with _ | ⟨_ | _, rest⟩
  · exact .inl ⟨rfl, by simp [bitRead, h]⟩
  · exact .inr (.inr ⟨_, rest, rfl, by simp [bitRead, h]⟩)
  · exact .inr (.inl ⟨rest, rfl, by simp [bitRead, h]⟩)

/-- A bin read waits, raises END_OF_STREAM, or goes on with the bin. -/
theorem binRead_cases (se : SyntaxElement) (binIdx : Nat) (bypass : Bool) (idx : Nat) (k : Bool → State → State)
    (s : State) :
    (s.bins = [] ∧ binRead se binIdx bypass idx k s = s) ∨
    (∃ rest, s.bins = .eos :: rest ∧ binRead se binIdx bypass idx k s =
      raiseDecode .endOfStream se idx
        { s with bins := rest, portLog := .binRead (binRequest se binIdx bypass idx s) .eos :: s.portLog }) ∨
    (∃ b rest, s.bins = .bit b :: rest ∧ binRead se binIdx bypass idx k s =
      k b { s with
        bins := rest
        portLog := .binRead (binRequest se binIdx bypass idx s) (.bit b) :: s.portLog
        work := { s.work with count := s.work.count + 1 } }) := by
  rcases h : s.bins with _ | ⟨_ | _, rest⟩
  · exact .inl ⟨rfl, by simp [binRead, h]⟩
  · exact .inr (.inr ⟨_, rest, rfl, by simp [binRead, h]⟩)
  · exact .inr (.inl ⟨rest, rfl, by simp [binRead, h]⟩)

/-- A codeword match is the value of a row with exactly these bits. -/
theorem vlcMatch_codeword {α : Type} {T : VlcTable α} {w : List Bool} {v : α}
    (h : vlcMatch T w = .codeword v) : (w, v) ∈ T := by
  unfold vlcMatch at h
  split at h
  · rename_i row hrow
    have hw := List.find?_some hrow
    simp only [beq_iff_eq] at hw
    cases h
    exact hw ▸ List.mem_of_find?_eq_some hrow
  · split at h <;> cases h

/-- An unfinished string is the beginning of a codeword of the table. -/
theorem vlcMatch_unfinished {α : Type} {T : VlcTable α} {w : List Bool}
    (h : vlcMatch T w = .unfinished) : ∃ row ∈ T, w <+: row.1 ∧ w ≠ row.1 := by
  unfold vlcMatch at h
  split at h
  · cases h
  · rename_i hnone
    split at h
    · rename_i hany
      obtain ⟨row, hmem, hpre⟩ := List.any_eq_true.mp hany
      refine ⟨row, hmem, by simpa using hpre, fun he => ?_⟩
      have := List.find?_eq_none.mp hnone row hmem
      simp [he] at this
    · cases h

/-- Out of BUSY the RCD takes no internal step. -/
theorem rcdStep_of_not_busy {s : State} (h : s.busy = false) : rcdStep s = s := by
  simp [rcdStep, h]

@[simp] theorem rcdSteps_zero (s : State) : rcdSteps 0 s = s := rfl
@[simp] theorem rcdSteps_succ (n : Nat) (s : State) : rcdSteps (n + 1) s = rcdSteps n (rcdStep s) := rfl

/-- Runs of internal steps compose. -/
theorem rcdSteps_add (m n : Nat) (s : State) : rcdSteps (m + n) s = rcdSteps n (rcdSteps m s) := by
  induction m generalizing s with
  | zero => simp
  | succ m ih => rw [Nat.succ_add, rcdSteps_succ, ih, rcdSteps_succ]

/-- A state without progress stays as it is. -/
theorem rcdSteps_of_fixed {s : State} (h : rcdStep s = s) (n : Nat) : rcdSteps n s = s := by
  induction n with
  | zero => rfl
  | succ n ih => rw [rcdSteps_succ, h, ih]

/-- Out of BUSY the RCD does not run. -/
theorem runOn_of_not_busy {s : State} (h : s.busy = false) : runOn s = s :=
  rcdSteps_of_fixed (rcdStep_of_not_busy h) _

/-- A property that every internal step keeps is kept by a run of them. -/
theorem rcdSteps_keeps {P : State → Prop} (h : ∀ s, P s → P (rcdStep s)) (n : Nat) (s : State) (hs : P s) :
    P (rcdSteps n s) := by
  induction n generalizing s with
  | zero => exact hs
  | succ n ih => exact ih _ (h s hs)

/-- A property that every internal step keeps is kept by `proceed`. -/
theorem proceed_keeps {P : State → Prop} (h : ∀ s, P s → P (rcdStep s)) (s : State) (hs : P s) :
    P (proceed s) := by
  unfold proceed runOn
  split
  · exact rcdSteps_keeps h _ _ hs
  · exact hs

/-- A submitted word is dropped, refused with ILLEGAL_OPERAND, or accepted. -/
theorem submit_cases (w : Word) (legal : Bool) (start : State → State) (s : State) :
    ((s.busy = true ∨ s.err = true) ∧ submit w legal start s = { s with ovr := true }) ∨
    (s.busy = false ∧ s.err = false ∧ legal = false ∧
      submit w legal start s = raiseCommand .illegalOperand { s with cmd := w, done := false }) ∨
    (s.busy = false ∧ s.err = false ∧ legal = true ∧
      submit w legal start s = proceed (start (latch w { s with cmd := w, done := false }))) := by
  unfold submit
  cases hb : s.busy <;> cases he : s.err <;> cases legal <;> simp

/-- An illegal command word is dropped, or accepted with ILLEGAL_COMMAND. -/
theorem submitIllegal_cases (w : Word) (s : State) :
    ((s.busy = true ∨ s.err = true) ∧ submitIllegal w s = { s with ovr := true }) ∨
    (s.busy = false ∧ s.err = false ∧
      submitIllegal w s = raiseCommand .illegalCommand { s with cmd := w, done := false }) := by
  unfold submitIllegal
  cases hb : s.busy <;> cases he : s.err <;> simp

/-- Every command answers a next state, and it is that of `submit` with the command's own start. -/
theorem exec_eq_submit (i : Instr) (s : State) :
    ∃ start : State → State, exec i s = .next (submit (encode i) i.wellFormed start s) := by
  cases i
  · exact ⟨_, rfl⟩
  · exact ⟨_, rfl⟩
  · exact ⟨_, rfl⟩

/-- A host read changes nothing but the answer and the count of free values drawn. -/
theorem hostRead_frame (off : BitVec 9) (size : Nat) (s : State) :
    ∃ r d, hostRead off size s = { s with resp := some r, draws := d } := by
  unfold hostRead
  split
  · split
    · exact ⟨_, _, rfl⟩
    · exact ⟨_, s.draws, rfl⟩
  · exact ⟨_, s.draws, rfl⟩

/-- Everything one step of the machine can be. -/
theorem step_cases {s t : State} (h : step s = .next t) :
    (s.env = [] ∧ t = if s.inReset then s else runOn s) ∨
    (∃ a rest, s.env = .host a :: rest ∧ hostAccess a { s with env := rest } = .next t) ∨
    (∃ rest, s.env = .rcd :: rest ∧ t = rcdTurn { s with env := rest }) ∨
    (∃ asserted rest, s.env = .reset asserted :: rest ∧ t = resetInput asserted { s with env := rest }) := by
  unfold step nextEvent at h
  split at h
  · rename_i henv
    exact .inl ⟨henv, by cases h; rfl⟩
  · rename_i a rest henv
    exact .inr (.inl ⟨a, rest, henv, h⟩)
  · rename_i rest henv
    exact .inr (.inr (.inl ⟨rest, henv, by cases h; rfl⟩))
  · rename_i asserted rest henv
    exact .inr (.inr (.inr ⟨asserted, rest, henv, by cases h; rfl⟩))

/-- Everything a host access can be, while the RCD is out of reset and the access is whole and aligned. -/
theorem hostAccess_cases {a : HostAccess} {s t : State} (h : hostAccess a s = .next t) :
    (s.inReset = true ∧ t = { s with resp := none }) ∨
    (s.inReset = false ∧ ∃ off size, a = .read off size ∧ t = hostRead off size s) ∨
    (s.inReset = false ∧ ∃ off size w, a = .write off size w ∧ accessOk off size = false ∧
      t = { s with resp := some .busError }) ∨
    (s.inReset = false ∧ ∃ off size w, a = .write off size w ∧ accessOk off size = true ∧
      ((off = offCmd ∧ writeCmd w { s with resp := some .done } = .next t) ∨
       (off = offCtrl ∧ t = writeCtrl w { s with resp := some .done }) ∨
       (off = offStatus ∧ t = writeStatus w { s with resp := some .done }) ∨
       (off ≠ offCmd ∧ off ≠ offCtrl ∧ off ≠ offStatus ∧ t = { s with resp := some .done }))) := by
  unfold hostAccess at h
  by_cases hr : s.inReset = true
  · rw [if_pos hr] at h
    cases h
    exact .inl ⟨hr, rfl⟩
  · rw [if_neg hr] at h
    have hr' : s.inReset = false := by simpa using hr
    cases a with
    | read off size =>
      cases h
      exact .inr (.inl ⟨hr', off, size, rfl, rfl⟩)
    | write off size w =>
      simp only [hostWrite] at h
      by_cases hok : accessOk off size = true
      · rw [if_pos hok] at h
        refine .inr (.inr (.inr ⟨hr', off, size, w, rfl, hok, ?_⟩))
        split at h
        · exact .inl ⟨‹_›, h⟩
        · split at h
          · cases h
            exact .inr (.inl ⟨‹_›, rfl⟩)
          · split at h
            · cases h
              exact .inr (.inr (.inl ⟨‹_›, rfl⟩))
            · cases h
              exact .inr (.inr (.inr ⟨‹_›, ‹_›, ‹_›, rfl⟩))
      · rw [if_neg hok] at h
        cases h
        exact .inr (.inr (.inl ⟨hr', off, size, w, rfl, by simpa using hok, rfl⟩))

end Sys2Proof.Machine
end

