-- ==== Sys2Proof/Laws/PerInstr.lean ====
section
/-! SUPPORT. The statement made of every command as syntax: the fixed bits of its row of spec/opcode_table.json. -/

namespace Sys2Proof.Laws.EncodingFixedBits

/-- The command's word has the fixed bits of its row: `word AND mask = match` (spec/30_encoding.md R73). -/
def Statement : Instr → Prop
  | .cavlcBlock maxN nC => encode (.cavlcBlock maxN nC) &&& 0xFFFE000F#32 = 0x00000001#32
  | .cabacBlock maxN cat => encode (.cabacBlock maxN cat) &&& 0xFFF1F80F#32 = 0x00000002#32
  | .zeroBlock maxN => encode (.zeroBlock maxN) &&& 0xFFFFF80F#32 = 0x00000003#32

theorem cavlcBlock (maxN : BitVec 7) (nC : BitVec 6) : Statement (.cavlcBlock maxN nC) := by
  simp only [Statement, encode, cmd32]
  ext k hk
  simp only [BitVec.getElem_and, BitVec.getElem_append]
  interval_cases k <;> simp

theorem cabacBlock (maxN : BitVec 7) (cat : BitVec 3) : Statement (.cabacBlock maxN cat) := by
  simp only [Statement, encode, cmd32]
  ext k hk
  simp only [BitVec.getElem_and, BitVec.getElem_append]
  interval_cases k <;> simp

theorem zeroBlock (maxN : BitVec 7) : Statement (.zeroBlock maxN) := by
  simp only [Statement, encode, cmd32]
  ext k hk
  simp only [BitVec.getElem_and, BitVec.getElem_append]
  interval_cases k <;> simp

end Sys2Proof.Laws.EncodingFixedBits
end

