-- ==== Sys2Proof/Tests/Slice0.lean ====
section
/-! SUPPORT. The model's own tests: words written out bit by bit from the spec's encodings, the well-formedness smoke,
a few of the vectors of spec/95_test_vectors.md on single steps, and for every obligation with hypotheses a state and
operands that meet all of them together. -/

namespace Sys2Proof.Tests

open Sys2Proof.Machine Sys2Proof.Claims

/-- The state a command leads to (`exec` always answers a next state). -/
def after (i : Instr) (s : State) : State :=
  match exec i s with
  | .next t => t
  | _ => s

/-- The state one step leads to. -/
def stepped (s : State) : State :=
  match step s with
  | .next t => t
  | _ => s

/-- Reset, with `n` answers of the bit port to come, written as a binary number, first answer leftmost. -/
def withBits (n v : Nat) : State := { State.reset with bits := asAnswers (cw n v) }

/-- Reset, with `n` answers of the bin port to come. -/
def withBins (n v : Nat) : State := { State.reset with bins := asAnswers (cw n v) }

/-- Reset, with a turn of the RCD to come, so that a command stays at its acceptance. -/
def withTurn : State := { State.reset with env := [.rcd] }

/-- BUSY with `CAVLC_BLOCK 16, 0`, at its first bit. -/
def busyCavlc : State := after (.cavlcBlock 16 0) withTurn

/-- In the ERROR state after the word 0 (V-CTL-3). -/
def inError : State := { State.reset with err := true, errCode := 1 }

/-- COEF as integers, the first `n` entries. -/
def coefs (n : Nat) (s : State) : List Int := (s.coef.toList.take n).map BitVec.toInt

/-! ## Decoding, word by word: `rrrrrrrrrrrr ccc nnnnnn mmmmmmm oooo` (R70, R88) -/

-- r = 0, CAT = 000, NC = 000011, MAXN = 0010000, OP = 0001
theorem test_decode_cavlc_16_3 :
    decode 0b00000000000000000001100100000001#32 = .ok (.cavlcBlock 16 3) := by decide
-- CAT = 000, NC = 111111 (minus one), MAXN = 0000100, OP = 0001
theorem test_decode_cavlc_4_minus_1 :
    decode 0b00000000000000011111100001000001#32 = .ok (.cavlcBlock 4 (-1)) := by decide
-- CAT = 010, NC = 000000, MAXN = 0010000, OP = 0010
theorem test_decode_cabac_16_2 :
    decode 0b00000000000001000000000100000010#32 = .ok (.cabacBlock 16 2) := by decide
-- CAT = 101, NC = 000000, MAXN = 1000000, OP = 0010
theorem test_decode_cabac_64_5 :
    decode 0b00000000000010100000010000000010#32 = .ok (.cabacBlock 64 5) := by decide
-- CAT = 000, NC = 000000, MAXN = 0001111, OP = 0011
theorem test_decode_zero_15 :
    decode 0b00000000000000000000000011110011#32 = .ok (.zeroBlock 15) := by decide

-- V-CTL-3, V-CTL-4, V-CTL-5, V-CTL-7: words that are no command, each for its first failing check
theorem test_decode_illegal :
    decode 0x00000000#32 = .illegal .reservedOpcode ∧ decode 0x0000010F#32 = .illegal .reservedOpcode ∧
    decode 0x80000103#32 = .illegal .reservedBits ∧ decode 0x00100101#32 = .illegal .reservedBits ∧
    decode 0x00020101#32 = .illegal .catNotZero ∧ decode 0x00000902#32 = .illegal .ncNotZero ∧
    decode 0x00000903#32 = .illegal .ncNotZero ∧ decode 0x80000000#32 = .illegal .reservedOpcode ∧
    decode 0x00100041#32 = .illegal .reservedBits := by decide

-- R87: the words beside the pseudo-instructions
theorem test_assemble_pseudo :
    (assemble .cavlcDc420).map encode = some 0x0001F841#32 ∧ (assemble .cavlcDc422).map encode = some 0x0001F081#32 ∧
    (assemble (.cavlc4x4 8)).map encode = some 0x00004101#32 ∧ (assemble (.cavlcAc 1)).map encode = some 0x000008F1#32 ∧
    (assemble (.cabac8x8 5)).map encode = some 0x000A0402#32 ∧ (assemble .zero4x4).map encode = some 0x00000103#32 ∧
    (assemble .zeroAc).map encode = some 0x000000F3#32 ∧ assemble (.zeroBlock 128) = none := by decide

/-! ## Well-formedness smoke (R75 to R77, V-CTL-6) -/

theorem test_ill_formed_cavlc_pair :
    Instr.wellFormed (.cavlcBlock 4 0) = false ∧ Instr.wellFormed (.cavlcBlock 16 (-2)) = false ∧
    Instr.wellFormed (.cavlcBlock 64 0) = false ∧ Instr.wellFormed (.cavlcBlock 8 0) = false ∧
    Instr.wellFormed (.cavlcBlock 16 (-32)) = false := by decide
theorem test_ill_formed_cabac_size :
    Instr.wellFormed (.cabacBlock 32 0) = false ∧ Instr.wellFormed (.cabacBlock 1 0) = false := by decide
theorem test_ill_formed_zero_size :
    Instr.wellFormed (.zeroBlock 0) = false ∧ Instr.wellFormed (.zeroBlock 65) = false := by decide
theorem test_well_formed_limits :
    Instr.wellFormed (.cavlcBlock 16 31) = true ∧ Instr.wellFormed (.cavlcBlock 15 0) = true ∧
    Instr.wellFormed (.cavlcBlock 8 (-2)) = true ∧ Instr.wellFormed (.cabacBlock 64 7) = true ∧
    Instr.wellFormed (.zeroBlock 1) = true ∧ Instr.wellFormed (.zeroBlock 64) = true := by decide

/-! ## The commands, on vectors of spec/95_test_vectors.md -/

-- V-CAVLC-2
theorem test_cavlc_worked_example :
    let t := after (.cavlcBlock 16 0) (withBits 24 0b000010001110010111101101)
    coefs 16 t = [0, 3, 0, 1, -1, -1, 0, 1, 0, 0, 0, 0, 0, 0, 0, 0] ∧ t.resCount = 24 ∧ t.statusWord = 2 := by decide
-- V-CAVLC-6: the bump comes before the ratchet (spec/90_conflicts.md C1)
theorem test_cavlc_suffix_length_order :
    let t := after (.cavlcBlock 16 0) (withBits 21 0b000001110000001110111)
    coefs 3 t = [2, 5, 0] ∧ t.resTz = 0 ∧ t.resCount = 21 ∧ t.statusWord = 2 := by decide
-- V-CABAC-3
theorem test_cabac_worked_example :
    let t := after (.cabacBlock 16 2) (withBins 15 0b110010110001100)
    coefs 5 t = [2, 0, -1, 1, 0] ∧ t.resNumCoeff = 4 ∧ t.resTz = 1 ∧ t.resCount = 15 ∧ t.statusWord = 2 := by decide
-- V-CABAC-11
theorem test_cabac_end_of_stream :
    let t := after (.cabacBlock 16 0) { State.reset with bins := asAnswers (cw 3 0b101) ++ [.eos] }
    t.statusWord = 0x504 ∧ t.errInfoWord = 0x10A ∧ t.resCount = 3 := by decide
-- V-CTL-2: ZERO_BLOCK 1 clears COEF[0] only
theorem test_zero_clears_one_entry :
    let t := after (.zeroBlock 1) { State.reset with coef := Vector.replicate 64 5, resCount := 9 }
    coefs 2 t = [0, 5] ∧ t.resCount = 0 ∧ t.statusWord = 2 := by decide
-- V-CTL-6: ZERO_BLOCK 65 is an illegal operand
theorem test_zero_illegal_operand :
    let t := after (.zeroBlock 65) { State.reset with coef := Vector.replicate 64 5 }
    coefs 1 t = [5] ∧ t.statusWord = 0x204 ∧ t.cmd = 0x413 := by decide

/-! ## Host accesses, one step each -/

-- V-CTL-3
theorem test_illegal_word_written :
    (stepped { State.reset with env := [.host (.write 0x00C 4 0)] }).statusWord = 0x104 := by decide
-- V-CTL-8
theorem test_write_dropped_in_error :
    let t := stepped { inError with env := [.host (.write 0x00C 4 0x103)] }
    t.statusWord = 0x10C ∧ t.cmd = 0 := by decide
-- V-CTL-10
theorem test_status_write_clears_error :
    (stepped { inError with ovr := true, env := [.host (.write 0x008 4 4)] }).statusWord = 8 := by decide
-- V-CTL-13
theorem test_ctrl_write_all_ones :
    let t := stepped { busyCavlc with env := [.host (.write 0x004 4 0xFFFFFFFF)] }
    t.ctrlWord = 3 ∧ t.statusWord = 0 ∧ t.cmd = 0 ∧ t.irq = false := by decide
-- V-CTL-15
theorem test_byte_read_is_a_bus_error :
    (stepped { State.reset with env := [.host (.read 0x008 1)] }).resp = some .busError := by decide
-- R230: a host read during reset is not answered
theorem test_no_answer_in_reset :
    (stepped { State.reset with inReset := true, env := [.host (.read 0x000 4)] }).resp = none := by decide

/-! ## The hypotheses of the obligations can be met -/

theorem ready_reset : State.reset.Ready := ⟨rfl, rfl, rfl⟩

theorem witness_EncodeOfDecode : decode 0x0001F841#32 = .ok (.cavlcBlock 4 (-1)) := by decide

/-- One word for each clause: reserved OP, reserved bit, illegal operand, legal; the last with an event to come. -/
theorem witness_ValidationOrderAtAcceptance :
    withTurn.Ready ∧ ¬ opLegal 0x00000004#32 ∧
    (opLegal 0x00100041#32 ∧ ¬ fieldsZero 0x00100041#32) ∧
    (opLegal 0x00000413#32 ∧ fieldsZero 0x00000413#32 ∧ ¬ operandsLegal 0x00000413#32) ∧
    (opLegal 0x0000F901#32 ∧ fieldsZero 0x0000F901#32 ∧ operandsLegal 0x0000F901#32 ∧ withTurn.env ≠ []) :=
  ⟨⟨rfl, rfl, rfl⟩, by unfold opLegal; decide, by unfold opLegal fieldsZero; decide,
   by unfold opLegal fieldsZero operandsLegal; decide, by unfold opLegal fieldsZero operandsLegal; decide⟩

theorem witness_AcceptanceIsOneAtomicStep :
    (withTurn.Ready ∧ decode 0x000000F3#32 = .ok (.zeroBlock 15) ∧ Instr.wellFormed (.zeroBlock 15) = true ∧
      withTurn.env ≠ []) ∧
    (State.reset.Ready ∧ ∀ i, decode 0x00000413#32 = .ok i → i.wellFormed = false) ∧
    (State.reset.Ready ∧ ∀ i, decode 0x00000000#32 = .ok i → i.wellFormed = false) := by
  refine ⟨⟨⟨rfl, rfl, rfl⟩, by decide, by decide, by decide⟩, ⟨ready_reset, fun i h => ?_⟩, ⟨ready_reset, fun i h => ?_⟩⟩
  · have hd : decode 0x00000413#32 = .ok (.zeroBlock 65) := by decide
    rw [hd] at h
    cases h
    decide
  · have hd : decode 0x00000000#32 = .illegal .reservedOpcode := by decide
    rw [hd] at h
    cases h

theorem witness_CommandDroppedWhileBusyOrError :
    (busyCavlc.busy = true ∨ busyCavlc.err = true) ∧ (inError.busy = true ∨ inError.err = true) := by decide

theorem witness_IllegalOperandsRaise :
    State.reset.Ready ∧ Instr.wellFormed (.cavlcBlock 4 0) = false ∧ Instr.wellFormed (.cabacBlock 63 7) = false ∧
    Instr.wellFormed (.zeroBlock 0) = false := ⟨ready_reset, by decide⟩

theorem witness_ZeroBlockCompletes :
    State.reset.Ready ∧ State.reset.env = [] ∧
    (1 ≤ (1 : BitVec 7).toNat ∧ (1 : BitVec 7).toNat ≤ 64) ∧ (1 ≤ (64 : BitVec 7).toNat ∧ (64 : BitVec 7).toNat ≤ 64) :=
  ⟨ready_reset, rfl, by decide, by decide⟩

theorem witness_ZeroBlockFrame :
    exec (.zeroBlock 64) State.reset = .next (after (.zeroBlock 64) State.reset) ∧
    (after (.zeroBlock 64) State.reset).done = true ∧
    exec (.zeroBlock 64) inError = .next (after (.zeroBlock 64) inError) ∧
    (inError.busy = true ∨ inError.err = true) := ⟨rfl, by decide, rfl, by decide⟩

/-- V-CAVLC-3: a block of 4 completes. -/
theorem witness_CavlcBlockCompletes :
    (withBits 13 0b0001101001010).Ready ∧ (withBits 13 0b0001101001010).env = [] ∧ cavlcLegal 4 (-1) = true ∧
    ∃ b log rest, pCavlc 4 (-1) (withBits 13 0b0001101001010).bits = .got b log rest ∧ b.tc = 2 ∧ rest = [] :=
  ⟨⟨rfl, rfl, rfl⟩, rfl, by decide, _, _, _, rfl, by decide, rfl⟩

/-- V-CAVLC-8: total_zeros above the budget of an AC block. -/
theorem witness_CavlcBlockRaises :
    (withBits 12 0b010000000001).Ready ∧ (withBits 12 0b010000000001).env = [] ∧ cavlcLegal 15 0 = true ∧
    ∃ log rest, pCavlc 15 0 (withBits 12 0b010000000001).bits = .error .streamCorrupt .totalZeros 0 log rest :=
  ⟨⟨rfl, rfl, rfl⟩, rfl, by decide, _, _, rfl⟩

theorem witness_CavlcBlockWaitsForBits :
    (withBits 3 0b000).Ready ∧ (withBits 3 0b000).env = [] ∧ cavlcLegal 16 31 = true ∧
    ∃ log, pCavlc 16 31 (withBits 3 0b000).bits = .waiting log := ⟨⟨rfl, rfl, rfl⟩, rfl, by decide, _, rfl⟩

theorem witness_CavlcZeroTotalCoeffReadsOnlyCoeffToken :
    (withBits 2 0b10).Ready ∧ (withBits 2 0b10).env = [] ∧ cavlcLegal 16 0 = true ∧
    (cw 1 0b1, (0, 0)) ∈ coeffTokenTable 0 ∧ (withBits 2 0b10).bits = asAnswers (cw 1 0b1) ++ [.bit false] :=
  ⟨⟨rfl, rfl, rfl⟩, rfl, by decide, by decide, by decide⟩

/-- V-CAVLC-7. -/
theorem witness_CavlcTotalCoeffAboveBudgetIsCorrupt :
    (withBits 16 0b0000000000000100).Ready ∧ (withBits 16 0b0000000000000100).env = [] ∧ cavlcLegal 15 0 = true ∧
    (cw 16 0b0000000000000100, (16, 0)) ∈ coeffTokenTable 0 ∧ (15 : BitVec 7).toNat < 16 ∧
    (withBits 16 0b0000000000000100).bits = asAnswers (cw 16 0b0000000000000100) ++ [] :=
  ⟨⟨rfl, rfl, rfl⟩, rfl, by decide, by decide, by decide, by decide⟩

theorem witness_CavlcBlockFrame :
    exec (.cavlcBlock 4 (-1)) (withBits 13 0b0001101001010) =
      .next (after (.cavlcBlock 4 (-1)) (withBits 13 0b0001101001010)) ∧
    exec (.cavlcBlock 4 (-1)) inError = .next (after (.cavlcBlock 4 (-1)) inError) ∧
    (inError.busy = true ∨ inError.err = true) := ⟨rfl, rfl, by decide⟩

/-- V-CAVLC-18: `RES_NUMCOEFF` is 4, the whole block. -/
theorem witness_CavlcScatterInvariants :
    (withBits 14 0b00000011011110).Ready ∧ cavlcLegal 4 (-1) = true ∧
    exec (.cavlcBlock 4 (-1)) (withBits 14 0b00000011011110) =
      .next (after (.cavlcBlock 4 (-1)) (withBits 14 0b00000011011110)) ∧
    (after (.cavlcBlock 4 (-1)) (withBits 14 0b00000011011110)).done = true ∧
    (after (.cavlcBlock 4 (-1)) (withBits 14 0b00000011011110)).resNumCoeff = 4 :=
  ⟨⟨rfl, rfl, rfl⟩, by decide, rfl, by decide, by decide⟩

theorem witness_CavlcLevelsFit :
    (withBits 14 0b00000011011110).Ready ∧ cavlcLegal 4 (-1) = true ∧
    exec (.cavlcBlock 4 (-1)) (withBits 14 0b00000011011110) =
      .next (after (.cavlcBlock 4 (-1)) (withBits 14 0b00000011011110)) ∧
    (after (.cavlcBlock 4 (-1)) (withBits 14 0b00000011011110)).done = true :=
  ⟨⟨rfl, rfl, rfl⟩, by decide, rfl, by decide⟩

theorem witness_CavlcDecodesEveryBlock :
    cavlcLegal 4 (-1) = true ∧ [3, 0, -1, (2 : Int) ^ 27].length = (4 : BitVec 7).toNat ∧
    (∀ v ∈ [3, 0, -1, (2 : Int) ^ 27], v.natAbs ≤ 2 ^ 27) ∧ (withBits 1 0).Ready ∧ (withBits 1 0).env = [] ∧
    ∃ code rest, (withBits 1 0).bits = asAnswers code ++ rest :=
  ⟨by decide, rfl, by decide, ⟨rfl, rfl, rfl⟩, rfl, [false], [], rfl⟩

theorem witness_VlcDecodeReadsExactlyTheCodeword :
    (cw 7 0b0000000, (4, 3)) ∈ coeffTokenTable (-1) ∧ IsNatTable (runBeforeTable 7) ∧
    (cw 11 0b00000000001, 14) ∈ runBeforeTable 7 ∧ IsNatTable (totalZeros4x4 15) ∧ (cw 1 0b1, 1) ∈ totalZeros4x4 15 :=
  ⟨by decide, .inr (.inr (.inr ⟨7, by decide, by decide, rfl⟩)), by decide,
   .inl ⟨15, by decide, by decide, rfl⟩, by decide⟩

theorem witness_TotalZerosAndRunBeforeInvalidStrings :
    IsNatTable (totalZeros4x4 1) ∧ IsNatTable (totalZerosDc420 3) ∧ IsNatTable (totalZerosDc422 7) ∧
    IsNatTable (runBeforeTable 7) :=
  ⟨.inl ⟨1, by decide, by decide, rfl⟩, .inr (.inl ⟨3, by decide, by decide, rfl⟩),
   .inr (.inr (.inl ⟨7, by decide, by decide, rfl⟩)), .inr (.inr (.inr ⟨7, by decide, by decide, rfl⟩))⟩

/-- V-CABAC-4. -/
theorem witness_CabacBlockCompletes :
    (withBins 7 0b1000100).Ready ∧ (withBins 7 0b1000100).env = [] ∧ cabacLegal 4 = true ∧
    ∃ b log rest, pCabac ⟨4, 0⟩ (withBins 7 0b1000100).bins = .got b log rest ∧ b.numCoeff = 4 ∧ rest = [] :=
  ⟨⟨rfl, rfl, rfl⟩, rfl, by decide, _, _, _, rfl, by decide, rfl⟩

theorem witness_CabacBlockRaises :
    let s : State := { State.reset with bins := [.bit true, .eos] }
    s.Ready ∧ s.env = [] ∧ cabacLegal 16 = true ∧
    ∃ log rest, pCabac ⟨16, 0⟩ s.bins = .error .endOfStream .significantCoeffFlag 0 log rest :=
  ⟨⟨rfl, rfl, rfl⟩, rfl, by decide, _, _, rfl⟩

theorem witness_CabacBlockWaitsForBins :
    State.reset.Ready ∧ State.reset.env = [] ∧ cabacLegal 64 = true ∧
    pCabac ⟨64, 5⟩ State.reset.bins = .waiting [] := ⟨ready_reset, rfl, by decide, by decide⟩

/-- A witness for each of its three clauses. -/
theorem witness_CabacCodedBlockFlag :
    ((withBins 1 0).Ready ∧ (withBins 1 0).env = [] ∧ cabacLegal 16 = true ∧ (16 : BitVec 7).toNat ≠ 64 ∧
      (withBins 1 0).bins = .bit false :: []) ∧
    (withTurn.Ready ∧ withTurn.env ≠ []) ∧
    ((withBins 4 0b1100).Ready ∧
      exec (.cabacBlock 64 5) (withBins 4 0b1100) = .next (after (.cabacBlock 64 5) (withBins 4 0b1100)) ∧
      ∃ log, (after (.cabacBlock 64 5) (withBins 4 0b1100)).portLog = log ++ (withBins 4 0b1100).portLog ∧
        log.length = 4) :=
  ⟨⟨⟨rfl, rfl, rfl⟩, rfl, by decide, by decide, by decide⟩, ⟨⟨rfl, rfl, rfl⟩, by decide⟩,
   ⟨⟨rfl, rfl, rfl⟩, rfl, _, (List.append_nil _).symm, by decide⟩⟩

theorem witness_CabacBlockFrame :
    exec (.cabacBlock 4 0) (withBins 7 0b1000100) = .next (after (.cabacBlock 4 0) (withBins 7 0b1000100)) ∧
    exec (.cabacBlock 4 0) inError = .next (after (.cabacBlock 4 0) inError) ∧
    (inError.busy = true ∨ inError.err = true) := ⟨rfl, rfl, by decide⟩

/-- V-CABAC-4: requests with SE 8, 9, 11 and 12. -/
theorem witness_CabacRequestFields :
    (withBins 7 0b1000100).Ready ∧ cabacLegal 4 = true ∧
    exec (.cabacBlock 4 0) (withBins 7 0b1000100) = .next (after (.cabacBlock 4 0) (withBins 7 0b1000100)) ∧
    ∃ log, (after (.cabacBlock 4 0) (withBins 7 0b1000100)).portLog = log ++ (withBins 7 0b1000100).portLog ∧
      log.length = 7 := ⟨⟨rfl, rfl, rfl⟩, by decide, rfl, _, (List.append_nil _).symm, by decide⟩

theorem witness_CabacSignificanceInvariants :
    (withBins 7 0b1000100).Ready ∧ cabacLegal 4 = true ∧
    exec (.cabacBlock 4 0) (withBins 7 0b1000100) = .next (after (.cabacBlock 4 0) (withBins 7 0b1000100)) ∧
    (after (.cabacBlock 4 0) (withBins 7 0b1000100)).done = true ∧
    ∃ log, (after (.cabacBlock 4 0) (withBins 7 0b1000100)).portLog = log ++ (withBins 7 0b1000100).portLog ∧
      (after (.cabacBlock 4 0) (withBins 7 0b1000100)).resCbf = 1 ∧ lastFlagsSet log = 0 :=
  ⟨⟨rfl, rfl, rfl⟩, by decide, rfl, by decide, _, (List.append_nil _).symm, by decide, by decide⟩

/-- V-CABAC-2: the last flag of position 0 ends the scan of 15 positions. -/
theorem witness_CabacSignificanceInvariants_last_flag :
    (withBins 5 0b11101).Ready ∧ cabacLegal 15 = true ∧
    exec (.cabacBlock 15 1) (withBins 5 0b11101) = .next (after (.cabacBlock 15 1) (withBins 5 0b11101)) ∧
    (after (.cabacBlock 15 1) (withBins 5 0b11101)).done = true ∧
    ∃ log, (after (.cabacBlock 15 1) (withBins 5 0b11101)).portLog = log ++ (withBins 5 0b11101).portLog ∧
      (after (.cabacBlock 15 1) (withBins 5 0b11101)).resCbf = 1 ∧ lastFlagsSet log = 1 :=
  ⟨⟨rfl, rfl, rfl⟩, by decide, rfl, by decide, _, (List.append_nil _).symm, by decide, by decide⟩

theorem witness_CabacLevelsFit :
    (withBins 7 0b1000100).Ready ∧ cabacLegal 4 = true ∧
    exec (.cabacBlock 4 0) (withBins 7 0b1000100) = .next (after (.cabacBlock 4 0) (withBins 7 0b1000100)) ∧
    (after (.cabacBlock 4 0) (withBins 7 0b1000100)).done = true := ⟨⟨rfl, rfl, rfl⟩, by decide, rfl, by decide⟩

theorem witness_CabacDecodesEveryBlock :
    cabacLegal 4 = true ∧ [0, 0, 0, (2 : Int) ^ 30 + 13].length = (4 : BitVec 7).toNat ∧
    (∀ v ∈ [0, 0, 0, (2 : Int) ^ 30 + 13], v.natAbs ≤ 2 ^ 30 + 13) ∧
    ((4 : BitVec 7).toNat = 64 → ∃ v ∈ [0, 0, 0, (2 : Int) ^ 30 + 13], v ≠ 0) ∧
    (withBins 1 0).Ready ∧ (withBins 1 0).env = [] ∧ ∃ code rest, (withBins 1 0).bins = asAnswers code ++ rest :=
  ⟨by decide, rfl, by decide, by decide, ⟨rfl, rfl, rfl⟩, rfl, [false], [], rfl⟩

/-- A command that completes, and one that ends with END_OF_STREAM. -/
theorem witness_CommandConsumesWhatItCounts :
    (∃ log, (after (.cavlcBlock 16 0) (withBits 1 1)).portLog = log ++ (withBits 1 1).portLog) ∧
    (withBits 1 1).Ready ∧ Instr.wellFormed (.cavlcBlock 16 0) = true ∧
    exec (.cavlcBlock 16 0) (withBits 1 1) = .next (after (.cavlcBlock 16 0) (withBits 1 1)) ∧
    (after (.cavlcBlock 16 0) (withBits 1 1)).busy = false ∧
    (after (.cavlcBlock 16 0) (withBits 1 1)).done = true ∧
    (after (.cavlcBlock 16 0) { State.reset with bits := [.eos] }).busy = false ∧
    (after (.cavlcBlock 16 0) { State.reset with bits := [.eos] }).err = true :=
  ⟨⟨_, (List.append_nil _).symm⟩, ⟨rfl, rfl, rfl⟩, by decide, rfl, by decide, by decide, by decide, by decide⟩

theorem witness_ConsumptionBounds :
    (withBits 1 1).Ready ∧ Instr.wellFormed (.cavlcBlock 16 0) = true ∧
    exec (.cavlcBlock 16 0) (withBits 1 1) = .next (after (.cavlcBlock 16 0) (withBits 1 1)) ∧
    (after (.cavlcBlock 16 0) (withBits 1 1)).busy = false := ⟨⟨rfl, rfl, rfl⟩, by decide, rfl, by decide⟩

theorem witness_CommandsTerminate :
    let s : State := { State.reset with
      bits := List.replicate 4862 (.bit false), bins := List.replicate 4862 (.bit false) }
    s.Ready ∧ s.env = [] ∧ Instr.wellFormed (.cabacBlock 64 0) = true ∧
    commandBound (.cabacBlock 64 0) ≤ s.bits.length ∧ commandBound (.cabacBlock 64 0) ≤ s.bins.length := by
  refine ⟨⟨rfl, rfl, rfl⟩, rfl, by decide, ?_, ?_⟩
  · exact le_of_eq List.length_replicate.symm
  · exact le_of_eq List.length_replicate.symm

theorem witness_DecodingErrorCodes :
    State.reset.Ready ∧ Instr.wellFormed (.cavlcBlock 16 0) = true ∧ Instr.wellFormed (.cabacBlock 4 0) = true ∧
    (after (.cavlcBlock 16 0) { State.reset with bits := [.eos] }).err = true ∧
    (after (.cabacBlock 4 0) { State.reset with bins := [.eos] }).err = true :=
  ⟨ready_reset, by decide, by decide, by decide, by decide⟩

/-- Two start states that differ in COEF, in the results and in the internal registers. -/
theorem witness_ResultDependsOnlyOnWordAndAnswers :
    let s1 := withBits 1 1
    let s2 : State := { withBits 1 1 with
      coef := Vector.replicate 64 7, resTc := 9, work := { Work.reset with tc := 5, i := 3 } }
    s1.Ready ∧ s2.Ready ∧ s1.env = [] ∧ s2.env = [] ∧ s1.bits = s2.bits ∧ s1.bins = s2.bins ∧
    exec (.cavlcBlock 16 0) s1 = .next (after (.cavlcBlock 16 0) s1) ∧
    exec (.cavlcBlock 16 0) s2 = .next (after (.cavlcBlock 16 0) s2) ∧
    (after (.cavlcBlock 16 0) s1).done = true :=
  ⟨⟨rfl, rfl, rfl⟩, ⟨rfl, rfl, rfl⟩, rfl, rfl, rfl, rfl, rfl, rfl, by decide⟩

theorem witness_TurnsMakeTheSameRun :
    let s := withBits 1 1
    let u := after (.cavlcBlock 16 0) { s with env := List.replicate 2 .rcd }
    s.Ready ∧ s.env = [] ∧ Instr.wellFormed (.cavlcBlock 16 0) = true ∧ s.bits.length + s.bins.length + 1 ≤ 2 ∧
    exec (.cavlcBlock 16 0) s = .next (after (.cavlcBlock 16 0) s) ∧
    exec (.cavlcBlock 16 0) { s with env := List.replicate 2 .rcd } = .next u :=
  ⟨⟨rfl, rfl, rfl⟩, rfl, by decide, by decide, rfl, rfl⟩

/-- A step that leaves the command BUSY, and the step of ZERO_BLOCK 16 that writes COEF and completes. -/
theorem witness_OneTransactionPerInternalStep :
    ({ busyCavlc with bits := [.bit false] } : State).WorkOk ∧
    (rcdStep { busyCavlc with bits := [.bit false] }).busy = true ∧
    (after (.zeroBlock 16) withTurn).WorkOk ∧ (after (.zeroBlock 16) withTurn).maxNum = 16 ∧
    (rcdStep (after (.zeroBlock 16) withTurn)).done = true :=
  ⟨⟨by unfold Work.fits; decide, fun _ => (by decide : cavlcLegal 16 0 = true), nofun⟩, by decide,
   ⟨by unfold Work.fits; decide, fun _ => (by decide : zeroLegal 16 = true), nofun⟩, by decide, by decide⟩

theorem witness_DecodingErrorIsPrecise :
    ({ busyCavlc with bits := [.eos] } : State).busy = true ∧ ({ busyCavlc with bits := [.eos] } : State).err = false ∧
    (rcdStep { busyCavlc with bits := [.eos] }).err = true ∧
    (16 : Nat) < 64 ∧ ({ busyCavlc with bits := [.eos] } : State).maxNum ≤ 16 := by decide

theorem witness_StatusWriteClears : inError.inReset = false ∧ busyCavlc.inReset = false := by decide

/-- Both settings of bit 31, and an aborted command with entries from maxN on. -/
theorem witness_CtrlWriteAndSoftReset :
    busyCavlc.inReset = false ∧ (0x00000001#32).getLsbD 31 = false ∧ (0x80000001#32).getLsbD 31 = true ∧
    busyCavlc.busy = true ∧ busyCavlc.maxNum ≤ 16 ∧ State.reset.busy = false := by decide

theorem witness_OtherHostWritesIgnored :
    State.reset.inReset = false ∧
    ∀ off ∈ [0x000#9, 0x010#9, 0x028#9, 0x02C#9, 0x0FC#9, 0x100#9, 0x1FC#9],
      off.toNat % 4 = 0 ∧ off ≠ 0x004 ∧ off ≠ 0x008 ∧ off ≠ 0x00C := by decide

theorem witness_BusErrorExactlyWhenMisaligned :
    State.reset.inReset = false ∧ ((0x1FE#9).toNat % 4 ≠ 0 ∨ 4 ≠ 4) ∧ ((0x008#9).toNat % 4 ≠ 0 ∨ 1 ≠ 4) ∧
    (0x000#9).toNat % 4 = 0 ∧ (0x1FC#9).toNat % 4 = 0 := by decide

theorem witness_IdAndUnmappedOffsets :
    busyCavlc.inReset = false ∧ (0x02C#9).toNat % 4 = 0 ∧ 0x02C ≤ (0x02C#9).toNat ∧ (0x02C#9).toNat ≤ 0x0FC ∧
    (0x0FC#9).toNat % 4 = 0 ∧ 0x02C ≤ (0x0FC#9).toNat ∧ (0x0FC#9).toNat ≤ 0x0FC := by decide

theorem witness_ControlRegisterReads : busyCavlc.inReset = false := by decide

/-- Not BUSY; BUSY at both ends of the result registers; COEF on both sides of maxN. -/
theorem witness_ResultRegisterReads :
    State.reset.inReset = false ∧ State.reset.busy = false ∧ busyCavlc.inReset = false ∧ busyCavlc.busy = true ∧
    ((0x014#9).toNat % 4 = 0 ∧ 0x014 ≤ (0x014#9).toNat ∧ (0x014#9).toNat ≤ 0x028) ∧
    ((0x028#9).toNat % 4 = 0 ∧ 0x014 ≤ (0x028#9).toNat ∧ (0x028#9).toNat ≤ 0x028) ∧
    15 < busyCavlc.maxNum ∧ busyCavlc.maxNum ≤ 16 ∧ busyCavlc.maxNum ≤ 63 := by decide

theorem witness_HostReadDoesNotDisturb :
    ({ busyCavlc with bits := [.bit false] } : State).err = false ∧
    (rcdStep { busyCavlc with bits := [.bit false] }).err = false := by decide

theorem witness_IrqFollowsWrites :
    State.reset.inReset = false ∧
    hostAccess (.write 0x004 4 3) State.reset =
      .next { State.reset with resp := some .done, ieDone := true, ieErr := true } ∧
    hostAccess (.write 0x008 4 2) State.reset = .next { State.reset with resp := some .done } := ⟨rfl, rfl, rfl⟩

/-- Assertion, every kind of event during reset, and assertion followed by release. -/
theorem witness_HardReset :
    ({ busyCavlc with env := [.reset true] } : State).env = .reset true :: [] ∧
    ({ busyCavlc with inReset := true, env := [.rcd] } : State).inReset = true ∧
    ({ busyCavlc with inReset := true, env := [.host (.read 0 4)] } : State).env = .host (.read 0 4) :: [] ∧
    ∃ t u, step { State.reset with env := [.reset true, .reset false] } = .next t ∧ step t = .next u :=
  ⟨rfl, rfl, rfl, _, _, rfl, rfl⟩

theorem witness_StepKeepsFlagInvariants :
    ({ inError with env := [.host (.write 0x008 4 4)] } : State).FlagsOk ∧
    step { inError with env := [.host (.write 0x008 4 4)] } =
      .next (stepped { inError with env := [.host (.write 0x008 4 4)] }) :=
  ⟨by unfold State.FlagsOk; decide, rfl⟩

theorem fits_reset : Work.reset.fits := by unfold Work.fits; decide

/-- A step that accepts CABAC_BLOCK 64, 5. -/
theorem witness_StepKeepsRegistersInRange :
    (State.reset.withFetchWord 32 0x000A0402).WorkOk ∧
    step (State.reset.withFetchWord 32 0x000A0402) = .next (stepped (State.reset.withFetchWord 32 0x000A0402)) ∧
    (stepped (State.reset.withFetchWord 32 0x000A0402)).busy = true :=
  ⟨⟨fits_reset, nofun, fun _ => rfl⟩, rfl, by decide⟩

theorem witness_StepKeepsConsumptionBound :
    (State.reset.withFetchWord 32 0x000A0402).CountOk ∧
    step (State.reset.withFetchWord 32 0x000A0402) = .next (stepped (State.reset.withFetchWord 32 0x000A0402)) :=
  ⟨⟨⟨fits_reset, nofun, fun _ => rfl⟩, by decide, nofun⟩, rfl⟩

theorem witness_EnablesChangeOnlyByCtrlOrReset :
    step { State.reset with env := [.host (.write 0x004 4 3)] } =
      .next (stepped { State.reset with env := [.host (.write 0x004 4 3)] }) ∧
    (stepped { State.reset with env := [.host (.write 0x004 4 3)] }).ieErr = true := ⟨rfl, by decide⟩

theorem witness_OverrunFlagChanges :
    step { inError with env := [.host (.write 0x00C 4 3)] } =
      .next (stepped { inError with env := [.host (.write 0x00C 4 3)] }) ∧
    (stepped { inError with env := [.host (.write 0x00C 4 3)] }).ovr = true := ⟨rfl, by decide⟩

/-- An accepted word with illegal operands, and an accepted legal one. -/
theorem witness_CmdHoldsLastAcceptedWord :
    step (State.reset.withFetchWord 32 0x00000413) = .next (stepped (State.reset.withFetchWord 32 0x00000413)) ∧
    (stepped (State.reset.withFetchWord 32 0x00000413)).cmd = 0x413 ∧
    (State.reset.withFetchWord 32 0x00000413).Ready ∧
    (State.reset.withFetchWord 32 0x00000413).env.head? = writeEvent 0x00C 0x00000413#32 ∧
    step (State.reset.withFetchWord 32 0x000000F3) = .next (stepped (State.reset.withFetchWord 32 0x000000F3)) ∧
    (State.reset.withFetchWord 32 0x000000F3).Ready ∧
    (State.reset.withFetchWord 32 0x000000F3).env.head? = writeEvent 0x00C 0x000000F3#32 ∧
    (stepped (State.reset.withFetchWord 32 0x000000F3)).cmd = 0xF3 :=
  ⟨rfl, by decide, ⟨rfl, rfl, rfl⟩, by decide, rfl, ⟨rfl, rfl, rfl⟩, by decide, by decide⟩

theorem witness_ErrorStateIsSticky :
    ({ inError with env := [.host (.write 0x00C 4 0x103)] } : State).FlagsOk ∧ inError.err = true ∧
    step { inError with env := [.host (.write 0x00C 4 0x103)] } =
      .next (stepped { inError with env := [.host (.write 0x00C 4 0x103)] }) :=
  ⟨by unfold State.FlagsOk; decide, rfl, rfl⟩

theorem witness_ResultsAreFinalOnceNotBusy :
    let s : State := { State.reset with env := [.host (.read 0x100 4)] }
    s.busy = false ∧ step s = .next (stepped s) ∧ (∀ w, s.env.head? = writeEvent 0x00C w → s.err = true) ∧
    (∀ w, s.env.head? = writeEvent 0x004 w → w.getLsbD 31 = false) ∧ s.env.head? ≠ some (.reset true) :=
  ⟨rfl, rfl, fun _ h => (by cases h), fun _ h => (by cases h), by decide⟩

theorem witness_StepRunsDecodedCommand :
    let s : State := { State.reset with env := [.host (.write 0x00C 4 0x000000F3)] }
    s.inReset = false ∧ s.env = .host (.write 0x00C 4 0x000000F3#32) :: [] ∧
    decode 0x000000F3#32 = .ok (.zeroBlock 15) ∧ decode 0x00000000#32 = .illegal .reservedOpcode :=
  ⟨rfl, rfl, by decide, by decide⟩

end Sys2Proof.Tests
end

/-! ## The command word and the submission of a command -/

namespace Sys2Proof.Machine

/-- A word is its five fields in their order (R70). -/
theorem fields_append (w : Word) :
    reservedField w ++ (catField w ++ (nCField w ++ (maxNField w ++ opField w))) = w := by
  ext k hk
  simp only [reservedField, catField, nCField, maxNField, opField, BitVec.getElem_append, BitVec.getElem_extractLsb']
  interval_cases k <;> simp

/-- A word that decodes is the word of its command (R70, R73). -/
theorem encode_of_decode {w : Word} {i : Instr} (h : decode w = .ok i) : encode i = w := by
  have hw := fields_append w
  unfold decode at h
  split_ifs at h with hop hres hcat hop hres hnc hop hres hcat hnc <;> cases h
  · rwa [not_not.mp hres, not_not.mp hcat, hop] at hw
  · rwa [not_not.mp hres, not_not.mp hnc, hop] at hw
  · rwa [not_not.mp hres, not_not.mp hcat, not_not.mp hnc, hop] at hw

@[simp] theorem maxNField_cmd32 (cat : BitVec 3) (nC : BitVec 6) (maxN : BitVec 7) (op : BitVec 4) :
    maxNField (cmd32 cat nC maxN op) = maxN := by
  ext k hk
  simp only [maxNField, cmd32, BitVec.getElem_extractLsb', BitVec.getLsbD_append]
  interval_cases k <;> simp

@[simp] theorem nCField_cmd32 (cat : BitVec 3) (nC : BitVec 6) (maxN : BitVec 7) (op : BitVec 4) :
    nCField (cmd32 cat nC maxN op) = nC := by
  ext k hk
  simp only [nCField, cmd32, BitVec.getElem_extractLsb', BitVec.getLsbD_append]
  interval_cases k <;> simp

@[simp] theorem opField_cmd32 (cat : BitVec 3) (nC : BitVec 6) (maxN : BitVec 7) (op : BitVec 4) :
    opField (cmd32 cat nC maxN op) = op := by
  ext k hk
  simp only [opField, cmd32, BitVec.getElem_extractLsb', BitVec.getLsbD_append]
  interval_cases k <;> simp

/-- The first step of a command's own rule, as its meaning passes it to `submit`. -/
def startOf : Instr → State → State
  | .cavlcBlock _ _ => startCavlc
  | .cabacBlock _ _ => startCabac
  | .zeroBlock _ => startZero

/-- The state right after the acceptance of a legal command, before the RCD goes on (R182). -/
def accepted (i : Instr) (s : State) : State :=
  startOf i (latch (encode i) { s with cmd := encode i, done := false })

theorem exec_eq (i : Instr) (s : State) :
    exec i s = .next (submit (encode i) i.wellFormed (startOf i) s) := by
  cases i <;> rfl

/-- A command is dropped, refused with ILLEGAL_OPERAND, or accepted (R78, R182, R183). -/
theorem exec_cases {i : Instr} {s t : State} (h : exec i s = .next t) :
    ((s.busy = true ∨ s.err = true) ∧ t = { s with ovr := true }) ∨
    (s.busy = false ∧ s.err = false ∧ i.wellFormed = false ∧
      t = raiseCommand .illegalOperand { s with cmd := encode i, done := false }) ∨
    (s.busy = false ∧ s.err = false ∧ i.wellFormed = true ∧ t = proceed (accepted i s)) := by
  rw [exec_eq] at h
  cases h
  exact submit_cases _ _ _ s

/-- Everything a whole write of `w` to CMD can do (R78, R182, R183). -/
theorem writeCmd_cases {w : Word} {s t : State} (h : writeCmd w s = .next t) :
    ((s.busy = true ∨ s.err = true) ∧ t = { s with ovr := true }) ∨
    (s.busy = false ∧ s.err = false ∧ ∃ code, t = raiseCommand code { s with cmd := w, done := false }) ∨
    (s.busy = false ∧ s.err = false ∧ ∃ i, i.wellFormed = true ∧ encode i = w ∧ t = proceed (accepted i s)) := by
  unfold writeCmd at h
  split at h
  next i hi =>
    obtain rfl := encode_of_decode hi
    obtain hdrop | ⟨hb, he, -, ht⟩ | ⟨hb, he, hwf, ht⟩ := exec_cases h
    · exact .inl hdrop
    · exact .inr (.inl ⟨hb, he, _, ht⟩)
    · exact .inr (.inr ⟨hb, he, i, hwf, rfl, ht⟩)
  next =>
    cases h
    obtain hdrop | ⟨hb, he, ht⟩ := submitIllegal_cases w s
    · exact .inl hdrop
    · exact .inr (.inl ⟨hb, he, _, ht⟩)

end Sys2Proof.Machine

/-! ## What an internal step can be, in every state -/

namespace Sys2Proof.Machine

/-- The OP of the command a phase belongs to (R71), 0 for `idle`. -/
def Phase.op : Phase → BitVec 4
  | .idle => 0
  | .coeffToken | .trailingOne | .levelPrefix | .levelSuffix | .totalZeros | .runBefore | .cavlcFinish => 1
  | .codedBlockFlag | .significance | .lastFlag | .absPrefix | .absUnary | .absBits | .coeffSign | .cabacFinish => 2
  | .zeroFinish => 3

/-- The latched fields of the command word are the same (R40, R182). -/
def SameOperands (w v : Work) : Prop :=
  w.op = v.op ∧ w.maxN = v.maxN ∧ w.nC = v.nC ∧ w.cat = v.cat

theorem SameOperands.trans {u v w : Work} (huv : SameOperands u v) (hvw : SameOperands v w) : SameOperands u w := by
  obtain ⟨hop, hmaxN, hnC, hcat⟩ := hvw
  unfold SameOperands
  rwa [← hop, ← hmaxN, ← hnC, ← hcat]

/-- The internal step has changed the internal registers and COEF only, and goes on in a phase of the command with
OP `o`; or it has then raised a decoding error, or completed. -/
def Progress (o : BitVec 4) (s t : State) : Prop :=
  (∃ w c, t = { s with work := w, coef := c } ∧ SameOperands w s.work ∧ w.phase.op = o) ∨
  (∃ code se idx w c, t = raiseDecode code se idx { s with work := w, coef := c } ∧ SameOperands w s.work) ∨
  (∃ tc t1 tz n b w c, t = complete tc t1 tz n b { s with work := w, coef := c } ∧ SameOperands w s.work)

section
variable {o : BitVec 4} {s t : State} {w : Work} {c : Vector Word 64}

theorem Progress.goOn (ht : t = { s with work := w, coef := c }) (hw : SameOperands w s.work) (hp : w.phase.op = o) :
    Progress o s t := .inl ⟨w, c, ht, hw, hp⟩

theorem Progress.raise {code : ErrorCode} {se : SyntaxElement} {idx : Nat}
    (ht : t = raiseDecode code se idx { s with work := w, coef := c }) (hw : SameOperands w s.work) : Progress o s t :=
  .inr (.inl ⟨code, se, idx, w, c, ht, hw⟩)

theorem Progress.finish {tc t1 tz n : Nat} {b : Bool}
    (ht : t = complete tc t1 tz n b { s with work := w, coef := c }) (hw : SameOperands w s.work) :
    Progress o s t := .inr (.inr ⟨tc, t1, tz, n, b, w, c, ht, hw⟩)

/-- Updates of the internal registers and of COEF before a step's other updates are part of it. -/
theorem Progress.after (h : Progress o { s with work := w, coef := c } t) (hw : SameOperands w s.work) :
    Progress o s t := by
  obtain ⟨w', c', ht, ho, hp⟩ | ⟨code, se, idx, w', c', ht, ho⟩ | ⟨tc, t1, tz, n, b, w', c', ht, ho⟩ := h
  · exact .goOn ht (ho.trans hw) hp
  · exact .raise ht (ho.trans hw)
  · exact .finish ht (ho.trans hw)

end

theorem nextRun_progress (s : State) : Progress 1 s (nextRun s) := by
  unfold nextRun closeRuns
  split
  · exact .goOn rfl ⟨rfl, rfl, rfl, rfl⟩ rfl
  · exact .goOn rfl ⟨rfl, rfl, rfl, rfl⟩ rfl

theorem startTotalZeros_progress (s : State) : Progress 1 s (startTotalZeros s) := by
  unfold startTotalZeros
  split
  · exact .goOn rfl ⟨rfl, rfl, rfl, rfl⟩ rfl
  · exact nextRun_progress _

theorem nextLevel_progress (s : State) : Progress 1 s (nextLevel s) := by
  unfold nextLevel
  split_ifs
  · exact .goOn rfl ⟨rfl, rfl, rfl, rfl⟩ rfl
  · exact .goOn rfl ⟨rfl, rfl, rfl, rfl⟩ rfl
  · exact startTotalZeros_progress s

theorem coeffTokenFound_progress (v : Nat × Nat) (s : State) : Progress 1 s (coeffTokenFound v s) := by
  unfold coeffTokenFound
  dsimp only
  split_ifs
  · exact .raise rfl ⟨rfl, rfl, rfl, rfl⟩
  · exact .goOn rfl ⟨rfl, rfl, rfl, rfl⟩ rfl
  · exact nextLevel_progress _

theorem finishLevel_progress (s : State) : Progress 1 s (finishLevel s) := nextLevel_progress _

theorem startLevelSuffix_progress (s : State) : Progress 1 s (startLevelSuffix s) := by
  unfold startLevelSuffix
  dsimp only
  split
  · exact .goOn rfl ⟨rfl, rfl, rfl, rfl⟩ rfl
  · exact finishLevel_progress _

theorem totalZerosFound_progress (v : Nat) (s : State) : Progress 1 s (totalZerosFound v s) := by
  unfold totalZerosFound
  dsimp only
  split
  · exact .raise rfl ⟨rfl, rfl, rfl, rfl⟩
  · exact nextRun_progress _

theorem runBeforeFound_progress (v : Nat) (s : State) : Progress 1 s (runBeforeFound v s) := by
  unfold runBeforeFound
  split
  · exact .raise rfl ⟨rfl, rfl, rfl, rfl⟩
  · exact nextRun_progress _

theorem levelWalk_progress (n : Nat) (s : State) : Progress 2 s (levelWalk n s) := by
  induction n generalizing s with
  | zero => exact .goOn rfl ⟨rfl, rfl, rfl, rfl⟩ rfl
  | succ n ih =>
    unfold levelWalk
    split
    · exact .goOn rfl ⟨rfl, rfl, rfl, rfl⟩ rfl
    · exact .after (ih _) ⟨rfl, rfl, rfl, rfl⟩

theorem nextScan_progress (s : State) : Progress 2 s (nextScan s) := by
  unfold nextScan
  split
  · exact .goOn rfl ⟨rfl, rfl, rfl, rfl⟩ rfl
  · exact .after (levelWalk_progress _ _) ⟨rfl, rfl, rfl, rfl⟩

/-- One bit of a codeword, in a phase of CAVLC_BLOCK. -/
theorem vlcStep_progress {α : Type} {T : VlcTable α} {se : SyntaxElement} {idx : Nat} {found : α → State → State}
    {b : Bool} {s : State} (hs : s.work.phase.op = 1) (hf : ∀ v s, Progress 1 s (found v s)) :
    Progress 1 s (vlcStep T se idx found b s) := by
  unfold vlcStep
  split
  · exact hf _ _
  · exact .goOn rfl ⟨rfl, rfl, rfl, rfl⟩ hs
  · exact .raise rfl ⟨rfl, rfl, rfl, rfl⟩

/-- The first answer of the bit port taken, in a phase of CAVLC_BLOCK (R55), or of the bin port, in a phase of
CABAC_BLOCK (R58), or no transaction. -/
inductive Transacts (s : State) : State → Prop
  | none : Transacts s s
  | bit {a : Answer} {rest : List Answer} (hbits : s.bits = a :: rest) (hop : s.work.phase.op = 1) :
    Transacts s { s with bits := rest, portLog := .bitRead a :: s.portLog }
  | bin {a : Answer} {rest : List Answer} (req : BinRequest) (hbins : s.bins = a :: rest)
    (hop : s.work.phase.op = 2) :
    Transacts s { s with bins := rest, portLog := .binRead req a :: s.portLog }

/-- At most one port transaction, then the updates that follow from it. -/
def Steps (s t : State) : Prop := ∃ u, Transacts s u ∧ Progress s.work.phase.op u t

theorem Steps.refl (s : State) : Steps s s :=
  ⟨s, .none, .goOn rfl ⟨rfl, rfl, rfl, rfl⟩ rfl⟩

/-- A bit read steps when its continuation goes on from every state of the same command. -/
theorem bitRead_steps {se : SyntaxElement} {idx : Nat} {k : Bool → State → State} {s : State}
    (hop : s.work.phase.op = 1) (hk : ∀ b u, u.work.phase = s.work.phase → Progress 1 u (k b u)) :
    Steps s (bitRead se idx k s) := by
  obtain ⟨-, ht⟩ | ⟨rest, hbits, ht⟩ | ⟨b, rest, hbits, ht⟩ := bitRead_cases se idx k s <;> rw [ht]
  · exact .refl s
  · exact ⟨_, .bit hbits hop, .raise rfl ⟨rfl, rfl, rfl, rfl⟩⟩
  · exact ⟨_, .bit hbits hop, hop ▸ hk b _ rfl⟩

/-- A bin read steps when its continuation goes on from every state of the same command. -/
theorem binRead_steps {se : SyntaxElement} {binIdx idx : Nat} {bypass : Bool} {k : Bool → State → State} {s : State}
    (hop : s.work.phase.op = 2) (hk : ∀ b u, u.work.phase = s.work.phase → Progress 2 u (k b u)) :
    Steps s (binRead se binIdx bypass idx k s) := by
  obtain ⟨-, ht⟩ | ⟨rest, hbins, ht⟩ | ⟨b, rest, hbins, ht⟩ := binRead_cases se binIdx bypass idx k s <;> rw [ht]
  · exact .refl s
  · exact ⟨_, .bin _ hbins hop, .raise rfl ⟨rfl, rfl, rfl, rfl⟩⟩
  · exact ⟨_, .bin (binRequest se binIdx bypass idx s) hbins hop, hop ▸ hk b _ rfl⟩

theorem vlcRead_steps {α : Type} {T : VlcTable α} {se : SyntaxElement} {idx : Nat} {found : α → State → State}
    {s : State} (hop : s.work.phase.op = 1) (hf : ∀ v s, Progress 1 s (found v s)) :
    Steps s (vlcRead T se idx found s) :=
  bitRead_steps hop fun _ _ hu => vlcStep_progress (hu ▸ hop) hf

theorem levelPrefixStep_steps {s : State} (hop : s.work.phase.op = 1) : Steps s (levelPrefixStep s) := by
  refine bitRead_steps hop fun b u hu => ?_
  dsimp only
  split_ifs
  · exact startLevelSuffix_progress u
  · exact .raise rfl ⟨rfl, rfl, rfl, rfl⟩
  · exact .goOn rfl ⟨rfl, rfl, rfl, rfl⟩ (hu ▸ hop)

theorem levelSuffixStep_steps {s : State} (hop : s.work.phase.op = 1) : Steps s (levelSuffixStep s) := by
  refine bitRead_steps hop fun b u hu => ?_
  dsimp only
  split
  · exact finishLevel_progress _
  · exact .goOn rfl ⟨rfl, rfl, rfl, rfl⟩ (hu ▸ hop)

theorem codedBlockFlagStep_steps {s : State} (hop : s.work.phase.op = 2) : Steps s (codedBlockFlagStep s) := by
  refine binRead_steps hop fun b u _ => ?_
  dsimp only
  split
  · exact nextScan_progress _
  · exact .goOn rfl ⟨rfl, rfl, rfl, rfl⟩ rfl

theorem significanceStep_steps {s : State} (hop : s.work.phase.op = 2) : Steps s (significanceStep s) := by
  refine binRead_steps hop fun b u _ => ?_
  dsimp only
  split
  · exact .goOn rfl ⟨rfl, rfl, rfl, rfl⟩ rfl
  · exact nextScan_progress _

theorem absPrefixStep_steps {s : State} (hop : s.work.phase.op = 2) : Steps s (absPrefixStep s) := by
  refine binRead_steps hop fun b u hu => ?_
  dsimp only
  split_ifs
  · exact .goOn rfl ⟨rfl, rfl, rfl, rfl⟩ (hu ▸ hop)
  · exact .goOn rfl ⟨rfl, rfl, rfl, rfl⟩ rfl
  · exact .goOn rfl ⟨rfl, rfl, rfl, rfl⟩ rfl

theorem absUnaryStep_steps {s : State} (hop : s.work.phase.op = 2) : Steps s (absUnaryStep s) := by
  refine binRead_steps hop fun b u hu => ?_
  dsimp only
  split_ifs
  · exact .raise rfl ⟨rfl, rfl, rfl, rfl⟩
  · exact .goOn rfl ⟨rfl, rfl, rfl, rfl⟩ (hu ▸ hop)
  · exact .goOn rfl ⟨rfl, rfl, rfl, rfl⟩ rfl
  · exact .goOn rfl ⟨rfl, rfl, rfl, rfl⟩ rfl

theorem absBitsStep_steps {s : State} (hop : s.work.phase.op = 2) : Steps s (absBitsStep s) := by
  refine binRead_steps hop fun b u hu => ?_
  dsimp only
  split
  · exact .goOn rfl ⟨rfl, rfl, rfl, rfl⟩ rfl
  · exact .goOn rfl ⟨rfl, rfl, rfl, rfl⟩ (hu ▸ hop)

/-- A finish is no transaction. -/
theorem Steps.of_finish {s t : State} {w : Work} {c : Vector Word 64} {tc t1 tz n : Nat} {b : Bool}
    (ht : t = complete tc t1 tz n b { s with work := w, coef := c }) (hw : SameOperands w s.work) : Steps s t :=
  ⟨s, .none, .finish ht hw⟩

/-- What one internal step can be: of a state that is not BUSY none, else at most one port transaction with its
updates (R184). -/
theorem rcdStep_steps (s : State) (hb : s.busy = true) : Steps s (rcdStep s) := by
  unfold rcdStep
  rw [if_pos hb]
  split <;> rename_i hp <;> have hop := congrArg Phase.op hp
  · exact .refl s
  · exact vlcRead_steps hop coeffTokenFound_progress
  · exact bitRead_steps hop fun _ _ _ => nextLevel_progress _
  · exact levelPrefixStep_steps hop
  · exact levelSuffixStep_steps hop
  · exact vlcRead_steps hop totalZerosFound_progress
  · exact vlcRead_steps hop runBeforeFound_progress
  · exact .of_finish rfl ⟨rfl, rfl, rfl, rfl⟩
  · exact codedBlockFlagStep_steps hop
  · exact significanceStep_steps hop
  · exact binRead_steps hop fun _ _ _ => nextScan_progress _
  · exact absPrefixStep_steps hop
  · exact absUnaryStep_steps hop
  · exact absBitsStep_steps hop
  · exact binRead_steps hop fun _ _ _ => .after (levelWalk_progress _ _) ⟨rfl, rfl, rfl, rfl⟩
  · exact .of_finish rfl ⟨rfl, rfl, rfl, rfl⟩
  · exact .of_finish rfl ⟨rfl, rfl, rfl, rfl⟩

end Sys2Proof.Machine

/-! ## What every internal step keeps, and the rule for invariants of a step of the machine -/

namespace Sys2Proof.Machine

/-- The host registers an internal step never writes, the fields of the outside world it never touches, and the
operands (R184). -/
structure KeepsControl (s t : State) : Prop where
  ieDone : t.ieDone = s.ieDone
  ieErr : t.ieErr = s.ieErr
  ovr : t.ovr = s.ovr
  cmd : t.cmd = s.cmd
  inReset : t.inReset = s.inReset
  env : t.env = s.env
  resp : t.resp = s.resp
  operands : SameOperands t.work s.work

/-- The flags, the error record, the results and the free values, which are written only when the command ends. -/
structure KeepsOutcome (s t : State) : Prop where
  done : t.done = s.done
  err : t.err = s.err
  errCode : t.errCode = s.errCode
  errSe : t.errSe = s.errSe
  errIdx : t.errIdx = s.errIdx
  resTc : t.resTc = s.resTc
  resT1 : t.resT1 = s.resT1
  resTz : t.resTz = s.resTz
  resNumCoeff : t.resNumCoeff = s.resNumCoeff
  resCbf : t.resCbf = s.resCbf
  resCount : t.resCount = s.resCount
  draws : t.draws = s.draws

theorem KeepsControl.refl (s : State) : KeepsControl s s :=
  ⟨rfl, rfl, rfl, rfl, rfl, rfl, rfl, rfl, rfl, rfl, rfl⟩

theorem KeepsControl.trans {s t u : State} (h : KeepsControl s t) (h' : KeepsControl t u) : KeepsControl s u :=
  ⟨h'.ieDone.trans h.ieDone, h'.ieErr.trans h.ieErr, h'.ovr.trans h.ovr, h'.cmd.trans h.cmd,
   h'.inReset.trans h.inReset, h'.env.trans h.env, h'.resp.trans h.resp, h'.operands.trans h.operands⟩

theorem Transacts.keepsControl {s u : State} (h : Transacts s u) : KeepsControl s u := by
  cases h <;> exact ⟨rfl, rfl, rfl, rfl, rfl, rfl, rfl, rfl, rfl, rfl, rfl⟩

theorem Transacts.keepsOutcome {s u : State} (h : Transacts s u) : KeepsOutcome s u := by
  cases h <;> exact ⟨rfl, rfl, rfl, rfl, rfl, rfl, rfl, rfl, rfl, rfl, rfl, rfl⟩

theorem Transacts.busy {s u : State} (h : Transacts s u) : u.busy = s.busy := by
  cases h <;> rfl

theorem Progress.keepsControl {o : BitVec 4} {s t : State} (h : Progress o s t) : KeepsControl s t := by
  obtain ⟨w, c, rfl, hw, -⟩ | ⟨code, se, idx, w, c, rfl, hw⟩ | ⟨tc, t1, tz, n, b, w, c, rfl, hw⟩ := h
  · exact ⟨rfl, rfl, rfl, rfl, rfl, rfl, rfl, hw⟩
  · constructor <;> simp
    exact hw
  · exact ⟨rfl, rfl, rfl, rfl, rfl, rfl, rfl, hw⟩

/-- A command still BUSY after an internal step has written none of its outcome. -/
theorem Progress.keepsOutcome {o : BitVec 4} {s t : State} (h : Progress o s t) (hb : t.busy = true) :
    KeepsOutcome s t ∧ t.work.phase.op = o := by
  obtain ⟨w, c, rfl, -, ho⟩ | ⟨code, se, idx, w, c, rfl, -⟩ | ⟨tc, t1, tz, n, b, w, c, rfl, -⟩ := h
  · exact ⟨⟨rfl, rfl, rfl, rfl, rfl, rfl, rfl, rfl, rfl, rfl, rfl, rfl⟩, ho⟩
  · simp at hb
  · simp at hb

theorem rcdStep_keepsControl (s : State) : KeepsControl s (rcdStep s) := by
  cases hb : s.busy with
  | false => rw [rcdStep_of_not_busy hb]; exact .refl s
  | true =>
    obtain ⟨u, hu, ht⟩ := rcdStep_steps s hb
    exact hu.keepsControl.trans ht.keepsControl

/-- A command still BUSY after an internal step was BUSY before it, in a phase of the same command, and has written
none of its outcome. -/
theorem rcdStep_keepsOutcome {s : State} (ht : (rcdStep s).busy = true) :
    s.busy = true ∧ KeepsOutcome s (rcdStep s) ∧ (rcdStep s).work.phase.op = s.work.phase.op := by
  cases hb : s.busy with
  | false =>
    rw [rcdStep_of_not_busy hb, hb] at ht
    cases ht
  | true =>
    obtain ⟨u, hu, hut⟩ := rcdStep_steps s hb
    obtain ⟨h, hop⟩ := hut.keepsOutcome ht
    have h' := hu.keepsOutcome
    exact ⟨rfl, ⟨h.done.trans h'.done, h.err.trans h'.err, h.errCode.trans h'.errCode, h.errSe.trans h'.errSe,
      h.errIdx.trans h'.errIdx, h.resTc.trans h'.resTc, h.resT1.trans h'.resT1, h.resTz.trans h'.resTz,
      h.resNumCoeff.trans h'.resNumCoeff, h.resCbf.trans h'.resCbf, h.resCount.trans h'.resCount,
      h.draws.trans h'.draws⟩, hop⟩

theorem proceed_keepsControl (s : State) : KeepsControl s (proceed s) :=
  proceed_keeps (P := KeepsControl s) (fun u hu => hu.trans (rcdStep_keepsControl u)) s (.refl s)

theorem runOn_keepsControl (s : State) : KeepsControl s (runOn s) :=
  rcdSteps_keeps (P := KeepsControl s) (fun u hu => hu.trans (rcdStep_keepsControl u)) _ s (.refl s)

/-- The start of a command's own rule goes on in its first phase. -/
theorem startOf_progress (i : Instr) (s : State) : Progress (opField (encode i)) s (startOf i s) := by
  cases i with
  | cavlcBlock maxN nC => exact .goOn rfl ⟨rfl, rfl, rfl, rfl⟩ (opField_cmd32 ..).symm
  | cabacBlock maxN cat =>
    rw [encode, opField_cmd32]
    unfold startOf startCabac
    dsimp only
    split
    · exact nextScan_progress _
    · exact .goOn rfl ⟨rfl, rfl, rfl, rfl⟩ rfl
  | zeroBlock maxN => exact .goOn rfl ⟨rfl, rfl, rfl, rfl⟩ (opField_cmd32 ..).symm

/-- An invariant of the machine: it is kept by an internal step, whatever the outside world does, by a dropped, a
refused and an accepted command, by the other host writes, and by the reset input. -/
theorem step_keeps {P : State → Prop} (hrcd : ∀ s, P s → P (rcdStep s))
    (hworld : ∀ s env resp draws, P s → P { s with env := env, resp := resp, draws := draws })
    (hdrop : ∀ s, P s → P { s with ovr := true })
    (hrefuse : ∀ code w s, s.busy = false → s.err = false → P s →
      P (raiseCommand code { s with cmd := w, done := false }))
    (haccept : ∀ i s, s.busy = false → s.err = false → i.wellFormed = true → P s → P (accepted i s))
    (hctrl : ∀ w s, P s → P (writeCtrl w s)) (hstatus : ∀ w s, P s → P (writeStatus w s))
    (hreset : ∀ b s, P s → P (resetInput b s)) {s t : State} (hs : P s) (h : step s = .next t) : P t := by
  obtain ⟨-, rfl⟩ | ⟨a, rest, -, h⟩ | ⟨rest, -, rfl⟩ | ⟨b, rest, -, rfl⟩ := step_cases h
  · split
    · exact hs
    · exact rcdSteps_keeps hrcd _ s hs
  · have hs' : P { s with env := rest } := hworld s rest s.resp s.draws hs
    obtain ⟨-, rfl⟩ | ⟨-, off, size, -, rfl⟩ | ⟨-, off, size, w, -, -, rfl⟩ | ⟨-, off, size, w, -, -, h⟩ :=
      hostAccess_cases h
    · exact hworld s rest none s.draws hs
    · obtain ⟨r, d, hread⟩ := hostRead_frame off size { s with env := rest }
      exact hread ▸ hworld s rest (some r) d hs
    · exact hworld s rest _ s.draws hs
    · have hdone := hworld s rest (some .done) s.draws hs
      obtain ⟨-, h⟩ | ⟨-, rfl⟩ | ⟨-, rfl⟩ | ⟨-, -, -, rfl⟩ := h
      · obtain ⟨-, rfl⟩ | ⟨hb, he, code, rfl⟩ | ⟨hb, he, i, hwf, -, rfl⟩ := writeCmd_cases h
        · exact hdrop _ hdone
        · exact hrefuse code w _ hb he hdone
        · exact proceed_keeps hrcd _ (haccept i _ hb he hwf hdone)
      · exact hctrl w _ hdone
      · exact hstatus w _ hdone
      · exact hdone
  · have hs' : P { s with env := rest } := hworld s rest s.resp s.draws hs
    unfold rcdTurn
    split
    · exact hs'
    · exact hrcd _ hs'
  · exact hreset b _ (hworld s rest s.resp s.draws hs)

end Sys2Proof.Machine

/-! ## The flag invariants -/

namespace Sys2Proof.Machine

theorem ErrorCode.code_ne_zero (c : ErrorCode) : c.code ≠ 0 := by
  cases c <;> decide

/-- In an error just raised, of a command that left DONE at 0. -/
theorem flagsOk_of_error {s : State} (hb : s.busy = false) (he : s.err = true) (hd : s.done = false)
    (hc : s.errCode ≠ 0) : s.FlagsOk :=
  ⟨by simp [hb], fun _ => hc, by simp [he], by simp [hd]⟩

theorem Progress.flagsOk {o : BitVec 4} {s t : State} (h : Progress o s t) (hb : s.busy = true) (hs : s.FlagsOk) :
    t.FlagsOk := by
  obtain ⟨hbusy, -, hclean, -⟩ := hs
  obtain ⟨he, hd⟩ := hbusy hb
  obtain ⟨w, c, rfl, -, -⟩ | ⟨code, se, idx, w, c, rfl, -⟩ | ⟨tc, t1, tz, n, b, w, c, rfl, -⟩ := h
  · exact ⟨fun _ => ⟨he, hd⟩, by simp [he], hclean, by simp [he]⟩
  · exact flagsOk_of_error (by simp) (by simp) (by simpa using hd) (by simpa using code.code_ne_zero)
  · exact ⟨by simp, by simp [he], by simpa using hclean, by simp [he]⟩

theorem rcdStep_flagsOk (s : State) (hs : s.FlagsOk) : (rcdStep s).FlagsOk := by
  cases hb : s.busy with
  | false => rwa [rcdStep_of_not_busy hb]
  | true =>
    obtain ⟨u, hu, ht⟩ := rcdStep_steps s hb
    have hu' : u.FlagsOk := by cases hu <;> exact hs
    exact ht.flagsOk (hu.busy.trans hb) hu'

theorem clearRegisters_flagsOk (s : State) : (clearRegisters s).FlagsOk := by
  simp [State.FlagsOk]

/-- A write to STATUS, flag by flag (R187). -/
theorem writeStatus_eq (w : Word) (s : State) :
    writeStatus w s = { s with
      done := s.done && !w.getLsbD 1
      ovr := s.ovr && !w.getLsbD 3
      err := s.err && !w.getLsbD 2
      errCode := if w.getLsbD 2 && s.err then 0 else s.errCode
      errSe := if w.getLsbD 2 && s.err then 0 else s.errSe
      errIdx := if w.getLsbD 2 && s.err then 0 else s.errIdx } := by
  unfold writeStatus clearError
  rcases s with ⟨ieDone, ieErr, busy, done, _ | _⟩ <;>
    cases w.getLsbD 1 <;> cases w.getLsbD 2 <;> cases w.getLsbD 3 <;> simp

theorem writeStatus_flagsOk (w : Word) (s : State) (hs : s.FlagsOk) : (writeStatus w s).FlagsOk := by
  obtain ⟨hbusy, herr, hclean, hboth⟩ := hs
  rw [writeStatus_eq]
  refine ⟨fun hb => ?_, fun h => ?_, fun h => ?_, fun h => ?_⟩ <;> dsimp only at *
  · simp [hbusy hb]
  · rw [Bool.and_eq_true, Bool.not_eq_true'] at h
    simpa only [h.2, Bool.false_and, Bool.false_eq_true, if_false] using herr h.1
  · cases he : s.err with
    | false => simpa using hclean he
    | true =>
      have hw : w.getLsbD 2 = true := by simpa [he] using h
      simp [hw]
  · rw [Bool.and_eq_true, Bool.and_eq_true] at h
    exact hboth ⟨h.1.1, h.2.1⟩

/-- Settles O51: the flags of R23 are kept by every internal step, which ends a BUSY command with exactly one of DONE
and ERR, and by every host access and reset. -/
theorem stepKeepsFlagInvariants : Obligations.StepKeepsFlagInvariants := by
  intro s t hs h
  refine step_keeps (P := State.FlagsOk) rcdStep_flagsOk (fun _ _ _ _ hs => hs) (fun _ hs => hs) ?refuse ?accept
    ?ctrl writeStatus_flagsOk ?reset hs h
  case refuse => exact fun code w s _ _ _ => flagsOk_of_error rfl rfl rfl code.code_ne_zero
  case accept =>
    intro i s hb he _ hs
    have hstart := startOf_progress i (latch (encode i) { s with cmd := encode i, done := false })
    obtain ⟨-, -, hclean, -⟩ := hs
    exact hstart.flagsOk rfl ⟨fun _ => ⟨he, rfl⟩, by simp [he], hclean, by simp⟩
  case ctrl =>
    intro w s hs
    unfold writeCtrl
    split
    · exact clearRegisters_flagsOk _
    · exact hs
  case reset =>
    intro b s hs
    cases b with
    | true => simp [resetInput, assertReset, State.FlagsOk]
    | false => exact hs

end Sys2Proof.Machine

/-! ## Bounds of the operands, the code tables and the level arithmetic -/

namespace Sys2Proof.Machine

theorem cavlcLegal_bounds {maxN : BitVec 7} {nC : BitVec 6} (h : cavlcLegal maxN nC = true) :
    4 ≤ maxN.toNat ∧ maxN.toNat ≤ 16 := by
  simp only [cavlcLegal, Bool.or_eq_true, Bool.and_eq_true, beq_iff_eq] at h
  omega

theorem cabacLegal_bounds {maxN : BitVec 7} (h : cabacLegal maxN = true) :
    4 ≤ maxN.toNat ∧ maxN.toNat ≤ 64 ∧ (maxN.toNat ≠ 64 → maxN.toNat ≤ 16) := by
  simp only [cabacLegal, Bool.or_eq_true, beq_iff_eq] at h
  omega

/-- What the rows of the coeff_token columns have in common (R140). -/
def CoeffTokenRow (row : List Bool × (Nat × Nat)) : Prop :=
  row.1.length ≤ 16 ∧ row.2.1 ≤ 16 ∧ row.2.2 ≤ 3 ∧ row.2.2 ≤ row.2.1

theorem coeffTokenTable_rows (nC : Int) : ∀ row ∈ coeffTokenTable nC, CoeffTokenRow row := by
  unfold CoeffTokenRow coeffTokenTable
  split_ifs <;> decide

/-- Codewords of at most `len` bits, for values of at most `v`. -/
def NatRow (len v : Nat) (row : List Bool × Nat) : Prop := row.1.length ≤ len ∧ row.2 ≤ v

theorem totalZerosTable_rows (maxN tc : Nat) : ∀ row ∈ totalZerosTable maxN tc, NatRow 9 15 row := by
  unfold NatRow totalZerosTable
  split_ifs
  · unfold totalZerosDc420
    split <;> decide
  · unfold totalZerosDc422
    split <;> decide
  · unfold totalZeros4x4
    split <;> decide

theorem runBeforeTable_rows (z : Nat) : ∀ row ∈ runBeforeTable z, NatRow 11 14 row := by
  unfold NatRow runBeforeTable
  split <;> decide

theorem suffixSize_le {p n : Nat} (hp : p ≤ 31) (hn : n ≤ 6) : suffixSize p n ≤ 28 := by
  unfold suffixSize
  split_ifs <;> omega

/-- The levelCode of a level_prefix and a level_suffix within their limits (R118). -/
theorem levelCodeOf_bound {p n suffix : Nat} (bias : Bool) (hp : p ≤ 31) (hn : n ≤ 6)
    (hs : suffix < 2 ^ suffixSize p n) : levelCodeOf p n suffix bias + 2 < 2 ^ 29 := by
  have hsuffix : suffix < 2 ^ 28 := hs.trans_le (Nat.pow_le_pow_right (by decide) (suffixSize_le hp hn))
  have hprefix : min 15 p * 2 ^ n ≤ 15 * 2 ^ 6 :=
    Nat.mul_le_mul (Nat.min_le_left _ _) (Nat.pow_le_pow_right (by decide) hn)
  have hescape : 2 ^ (p - 3) ≤ 2 ^ 28 := Nat.pow_le_pow_right (by decide) (by omega)
  unfold levelCodeOf
  split_ifs <;> omega

theorem levelOfCode_bound {c : Nat} (h : c + 2 < 2 ^ 29) : (levelOfCode c).natAbs < 2 ^ 28 := by
  unfold levelOfCode
  split <;> omega

theorem trailingOneLevel_bound (b : Bool) : (trailingOneLevel b).natAbs < 2 ^ 28 := by
  cases b <;> decide

theorem initialSuffixLength_le (tc t1 : Nat) : initialSuffixLength tc t1 ≤ 6 := by
  unfold initialSuffixLength
  split <;> decide

theorem nextSuffixLength_le {n : Nat} (v : Int) (h : n ≤ 6) : nextSuffixLength n v ≤ 6 := by
  unfold nextSuffixLength
  dsimp only
  split_ifs <;> omega

/-! ## The runs and the reverse scatter -/

/-- One more run. -/
theorem runSum_succ (w : Work) (n : Nat) : w.runSum (n + 1) = w.runSum n + w.runVal.getD n 0 := by
  unfold Work.runSum
  rw [List.take_add_one, List.sum_append]
  by_cases hn : n < 16 <;> simp [hn, Vector.getD]

/-- The runs below `n` do not depend on those from `n` on. -/
theorem runSum_congr {w v : Work} {n : Nat} (h : ∀ m < n, w.runVal.getD m 0 = v.runVal.getD m 0) :
    w.runSum n = v.runSum n := by
  induction n with
  | zero => rfl
  | succ n ih => rw [runSum_succ, runSum_succ, ih fun m hm => h m (by omega), h n (by omega)]

/-- Where the walk of the scatter ends, and that it writes nothing above (R116). -/
theorem scatterLoop_spec (w : Work) (n : Nat) (p : Int)
    (coef : Vector Word 64) (hp : -1 ≤ p) :
    (scatterLoop w.levelVal w.runVal n (p, coef)).1 = p + w.runSum n + n ∧
    ∀ (k : Nat) (h : k < 64), p + w.runSum n + n < k →
      (scatterLoop w.levelVal w.runVal n (p, coef)).2[k] = coef[k] := by
  induction n generalizing p coef with
  | zero => simp [scatterLoop, Work.runSum]
  | succ n ih =>
    simp only [scatterLoop, runSum_succ]
    obtain ⟨hend, hkeep⟩ := ih (p + (w.runVal.getD n 0 : Nat) + 1)
      (coef.setIfInBounds (p + (w.runVal.getD n 0 : Nat) + 1).toNat (coefWord (w.levelVal.getD n 0))) (by omega)
    refine ⟨by rw [hend]; push_cast; omega, fun k hk hlt => ?_⟩
    rw [hkeep k hk (by push_cast at hlt; omega), Vector.getElem_setIfInBounds_ne]
    push_cast at hlt
    omega

end Sys2Proof.Machine

/-! ## The invariant of the internal registers -/

namespace Sys2Proof.Machine

/-- The ranges of `Work.fits` under names. -/
structure Work.InRange (w : Work) : Prop where
  tc : w.tc ≤ 16
  t1 : w.t1 ≤ 3
  suffixLength : w.suffixLength ≤ 6
  levelPrefix : w.levelPrefix ≤ 32
  levelSuffixSize : w.levelSuffixSize ≤ 28
  levelSuffix : w.levelSuffix < 2 ^ 28
  levelCode : w.levelCode < 2 ^ 29
  levelVal : ∀ v ∈ w.levelVal.toList, v.natAbs < 2 ^ 28
  tz : w.tz ≤ 16
  zerosLeft : w.zerosLeft ≤ 16
  runVal : ∀ r ∈ w.runVal.toList, r ≤ 16
  coeffNum_ge : -1 ≤ w.coeffNum
  coeffNum_le : w.coeffNum ≤ 63
  numCoeff : w.numCoeff ≤ 64
  gt1 : w.gt1 ≤ 64
  eq1 : w.eq1 ≤ 64
  absm1 : w.absm1 ≤ 2 ^ 30 + 12
  k : w.k ≤ 29
  binIdx : w.binIdx ≤ 73
  i : w.i ≤ 64
  j : w.j ≤ 28
  code : w.code.length ≤ 15

theorem Work.fits_iff (w : Work) : w.fits ↔ w.InRange :=
  ⟨fun ⟨h1, h2, h3, h4, h5, h6, h7, h8, h9, h10, h11, h12, h13, h14, h15, h16, h17, h18, h19, h20, h21, h22⟩ =>
    ⟨h1, h2, h3, h4, h5, h6, h7, h8, h9, h10, h11, h12, h13, h14, h15, h16, h17, h18, h19, h20, h21, h22⟩,
   fun ⟨h1, h2, h3, h4, h5, h6, h7, h8, h9, h10, h11, h12, h13, h14, h15, h16, h17, h18, h19, h20, h21, h22⟩ =>
    ⟨h1, h2, h3, h4, h5, h6, h7, h8, h9, h10, h11, h12, h13, h14, h15, h16, h17, h18, h19, h20, h21, h22⟩⟩

/-- The ranges the steps of a phase rely on besides `Work.phaseOk`, of registers that the command itself has
written. They follow from `Work.fits`, but hold also where other registers still hold what was left in them. -/
def Work.liveOk (w : Work) : Prop :=
  match w.phase with
  | .trailingOne | .levelPrefix | .levelSuffix => w.suffixLength ≤ 6
  | .absUnary => w.k ≤ 29
  | _ => True

/-- What the command has consumed and may still consume is at most `B`, if there is such a bound (R250). -/
def Work.within (B : Option Nat) (w : Work) : Prop :=
  ∀ b ∈ B, w.codeOk ∧ w.count + w.budget ≤ b

/-- The invariant of the internal registers (R37, R40, R250): a BUSY command is in a phase whose registers fit
together, and within the bound `B`; and, where `F` asks for it, every register is in its range. -/
structure Sound (F : Prop) (B : Option Nat) (s : State) : Prop where
  range : F → s.work.InRange
  phase : s.busy = true → s.work.phaseOk ∧ s.work.liveOk ∧ s.work.within B
  idle : s.busy = false → s.work.phase = .idle

/-- The invariant holds of `t`, which differs from `s` in COEF below maxN only, and has consumed at most the bound
if the command has ended there. -/
def Lands (F : Prop) (B : Option Nat) (s t : State) : Prop :=
  Sound F B t ∧ (∀ (k : Nat) (h : k < 64), s.maxNum ≤ k → t.coef[k] = s.coef[k]) ∧
  (t.busy = false → ∀ b ∈ B, t.resCount.toNat ≤ b)

theorem Work.InRange.liveOk {w : Work} (h : w.InRange) : w.liveOk := by
  unfold Work.liveOk
  split
  · exact h.suffixLength
  · exact h.suffixLength
  · exact h.suffixLength
  · exact h.k
  · trivial

theorem workOk_iff_sound (s : State) : s.WorkOk ↔ Sound True none s := by
  constructor
  · rintro ⟨hfits, hphase, hidle⟩
    have hr := (Work.fits_iff _).mp hfits
    exact ⟨fun _ => hr, fun hb => ⟨hphase hb, hr.liveOk, nofun⟩, hidle⟩
  · rintro ⟨hr, hphase, hidle⟩
    exact ⟨(Work.fits_iff _).mpr (hr trivial), fun hb => (hphase hb).1, hidle⟩

theorem countOk_iff_sound (s : State) : s.CountOk ↔ Sound True (some 4862) s ∧ s.resCount.toNat ≤ 4862 := by
  constructor
  · rintro ⟨⟨hfits, hphase, hidle⟩, hres, hcount⟩
    have hr := (Work.fits_iff _).mp hfits
    exact ⟨⟨fun _ => hr, fun hb => ⟨hphase hb, hr.liveOk, by rintro b ⟨⟩; exact hcount hb⟩, hidle⟩, hres⟩
  · rintro ⟨⟨hr, hphase, hidle⟩, hres⟩
    exact ⟨⟨(Work.fits_iff _).mpr (hr trivial), fun hb => (hphase hb).1, hidle⟩, hres,
      fun hb => (hphase hb).2.2 4862 rfl⟩

section
variable {F : Prop} {B : Option Nat} {s t : State} {w : Work}

/-- The invariant of a BUSY command, at its phase. -/
theorem Sound.at {p : Phase} (hs : Sound F B s) (hb : s.busy = true) (hp : s.work.phase = p) :
    ({ s.work with phase := p } : Work).phaseOk ∧ ({ s.work with phase := p } : Work).liveOk ∧
    ({ s.work with phase := p } : Work).within B := by
  subst hp
  exact hs.phase hb

theorem Sound.count_le (hs : Sound F B s) (hb : s.busy = true) : ∀ b ∈ B, s.work.count ≤ b := fun b hB =>
  (Nat.le_add_right _ _).trans ((hs.phase hb).2.2 b hB).2

/-- A smaller number has the same bound. -/
theorem bound_mono {m n : Nat} (h : ∀ b ∈ B, m ≤ b) (hle : n ≤ m) : ∀ b ∈ B, n ≤ b := fun b hb => hle.trans (h b hb)

theorem Work.within_of_le {m : Nat} (hc : w.codeOk) (h : ∀ b ∈ B, m ≤ b) (hle : w.count + w.budget ≤ m) :
    w.within B := fun b hb => ⟨hc, hle.trans (h b hb)⟩

theorem lands_goOn (hb : s.busy = true) (hF : F → w.InRange) (hp : w.phaseOk) (hl : w.liveOk)
    (hB : w.within B) : Lands F B s { s with work := w } :=
  ⟨⟨hF, fun _ => ⟨hp, hl, hB⟩, fun h => by simp [hb] at h⟩, fun _ _ _ => rfl, fun h => by simp [hb] at h⟩

theorem toNat_count_le {n b : Nat} (h : n ≤ b) : (BitVec.ofNat 32 n).toNat ≤ b := by
  rw [BitVec.toNat_ofNat]
  exact (Nat.mod_le _ _).trans h

theorem Work.InRange.idle (h : w.InRange) : ({ w with phase := .idle } : Work).InRange := { h with }

theorem lands_raise {code : ErrorCode} {se : SyntaxElement} {idx : Nat} (hF : F → s.work.InRange)
    (hB : ∀ b ∈ B, s.work.count ≤ b) : Lands F B s (raiseDecode code se idx s) := by
  refine ⟨⟨fun h => ?_, by simp, by simp⟩, fun k hk hle => ?_, fun _ b hb => ?_⟩
  · rw [raiseDecode_work]
    exact (hF h).idle
  · rw [raiseDecode_coef, if_neg (by omega)]
  · rw [raiseDecode_resCount]
    exact toNat_count_le (hB b hb)

theorem lands_complete {tc t1 tz n : Nat} {cbf : Bool} (hF : F → s.work.InRange)
    (hB : ∀ b ∈ B, s.work.count ≤ b) : Lands F B s (complete tc t1 tz n cbf s) :=
  ⟨⟨fun h => (hF h).idle, by simp, by simp⟩, fun _ _ _ => rfl, fun _ b hb => toNat_count_le (hB b hb)⟩

/-- Updates that keep maxN, and COEF from maxN on, may come before. -/
theorem Lands.after {u : State} (h : Lands F B u t) (hm : u.work.maxN = s.work.maxN)
    (hc : ∀ (k : Nat) (h : k < 64), s.maxNum ≤ k → u.coef[k] = s.coef[k]) : Lands F B s t := by
  obtain ⟨hsound, hcoef, hres⟩ := h
  have hmax : u.maxNum = s.maxNum := congrArg BitVec.toNat hm
  exact ⟨hsound, fun k hk hle => (hcoef k hk (hmax ▸ hle)).trans (hc k hk hle), hres⟩

/-- A bit read lands where its continuation lands with the bit counted. -/
theorem bitRead_lands {se : SyntaxElement} {idx : Nat} {k : Bool → State → State} (hs : Sound F B s)
    (hb : s.busy = true)
    (hk : ∀ b rest log,
      Lands F B { s with bits := rest, portLog := log, work := { s.work with count := s.work.count + 1 } }
        (k b { s with bits := rest, portLog := log, work := { s.work with count := s.work.count + 1 } })) :
    Lands F B s (bitRead se idx k s) := by
  obtain ⟨-, ht⟩ | ⟨rest, -, ht⟩ | ⟨b, rest, -, ht⟩ := bitRead_cases se idx k s <;> rw [ht]
  · exact ⟨hs, fun _ _ _ => rfl, fun h => by simp [hb] at h⟩
  · exact lands_raise (s := { s with bits := rest, portLog := _ }) hs.range (hs.count_le hb)
  · exact hk b rest _

/-- A bin read lands where its continuation lands with the bin counted. -/
theorem binRead_lands {se : SyntaxElement} {binIdx idx : Nat} {bypass : Bool} {k : Bool → State → State}
    (hs : Sound F B s) (hb : s.busy = true)
    (hk : ∀ b rest log,
      Lands F B { s with bins := rest, portLog := log, work := { s.work with count := s.work.count + 1 } }
        (k b { s with bins := rest, portLog := log, work := { s.work with count := s.work.count + 1 } })) :
    Lands F B s (binRead se binIdx bypass idx k s) := by
  obtain ⟨-, ht⟩ | ⟨rest, -, ht⟩ | ⟨b, rest, -, ht⟩ := binRead_cases se binIdx bypass idx k s <;> rw [ht]
  · exact ⟨hs, fun _ _ _ => rfl, fun h => by simp [hb] at h⟩
  · exact lands_raise (s := { s with bins := rest, portLog := _ }) hs.range (hs.count_le hb)
  · exact hk b rest _

end

end Sys2Proof.Machine

/-! ## The invariant through the phases of CAVLC_BLOCK -/

namespace Sys2Proof.Machine

section
variable {F : Prop} {B : Option Nat} {s : State}

/-- A property of every entry after one entry is set. -/
theorem forall_mem_setIfInBounds {α : Type} {n : Nat} {P : α → Prop} {v : Vector α n} (i : Nat) {x : α}
    (hv : ∀ a ∈ v.toList, P a) (hx : P x) : ∀ a ∈ (v.setIfInBounds i x).toList, P a := by
  intro a ha
  rw [Vector.mem_toList_iff, Vector.mem_iff_getElem] at ha
  obtain ⟨m, hm, rfl⟩ := ha
  rw [Vector.getElem_setIfInBounds]
  split
  · exact hx
  · exact hv _ (by simp)

/-- The runs closed at level `i` add up to the runs read and the zeros left (R114, R115). -/
theorem runSum_closeRuns (hi : s.work.i < s.work.tc) (htc : s.work.tc ≤ 16) :
    (closeRuns s).work.runSum s.work.tc = s.work.runSum s.work.i + s.work.zerosLeft := by
  have hget : ∀ m < s.work.tc, (closeRuns s).work.runVal.getD m 0 =
      if m + 1 = s.work.tc then s.work.zerosLeft
      else if s.work.i ≤ m ∧ m + 1 < s.work.tc then 0 else s.work.runVal.getD m 0 := by
    intro m hm
    have hm16 : m < 16 := by omega
    simp [closeRuns, Vector.getD, hm16]
  have hzeros : ∀ n, s.work.i ≤ n → n + 1 ≤ s.work.tc → (closeRuns s).work.runSum n = s.work.runSum s.work.i := by
    intro n hin
    induction n, hin using Nat.le_induction with
    | base =>
      intro _
      refine runSum_congr fun m hm => ?_
      rw [hget m (by omega), if_neg (by omega), if_neg (by omega)]
    | succ n hin ih =>
      intro hn
      rw [runSum_succ, ih (by omega), hget n (by omega), if_neg (by omega), if_pos ⟨hin, hn⟩, Nat.add_zero]
  obtain ⟨n, hn⟩ : ∃ n, s.work.tc = n + 1 := ⟨s.work.tc - 1, by omega⟩
  rw [hn, runSum_succ, hzeros n (by omega) (by omega), hget n (by omega), if_pos hn.symm]

theorem closeRuns_runVal_le (hr : s.work.InRange) : ∀ r ∈ (closeRuns s).work.runVal.toList, r ≤ 16 := by
  intro r hmem
  simp only [closeRuns, Vector.toList_ofFn, List.mem_ofFn] at hmem
  obtain ⟨m, rfl⟩ := hmem
  split_ifs
  · exact hr.zerosLeft
  · exact Nat.zero_le _
  · exact hr.runVal _ (by simp)

theorem nextRun_lands (hb : s.busy = true) (hF : F → s.work.InRange) (hl : s.work.levelsOk)
    (hsum : s.work.tc + s.work.tz ≤ s.work.maxN.toNat) (hi : s.work.i < s.work.tc)
    (hrun : s.work.runSum s.work.i + s.work.zerosLeft = s.work.tz)
    (hB : ∀ b ∈ B, s.work.count + (s.work.tc - 1 - s.work.i) * 11 ≤ b) : Lands F B s (nextRun s) := by
  have htc : s.work.tc ≤ 16 := by
    obtain ⟨hlegal, -⟩ := hl
    have := cavlcLegal_bounds hlegal
    omega
  unfold nextRun
  split
  next h =>
    exact lands_goOn hb (fun h => { hF h with code := Nat.zero_le _ }) ⟨hl, h.1, h.2, hsum, hrun⟩ trivial
      fun b hB' => ⟨Nat.zero_le _, hB b hB'⟩
  next =>
    refine lands_goOn hb (fun h => { hF h with runVal := closeRuns_runVal_le (hF h) })
      ⟨hl.1, .inr ⟨hsum, (runSum_closeRuns hi htc).trans hrun⟩⟩ trivial (Work.within_of_le trivial hB (Nat.le_add_right _ _))

theorem startRuns_lands (hb : s.busy = true) (hF : F → s.work.InRange) (hl : s.work.levelsOk)
    (hsum : s.work.tc + s.work.tz ≤ s.work.maxN.toNat) (hB : ∀ b ∈ B, s.work.count + 165 ≤ b) :
    Lands F B s (startRuns s) := by
  obtain ⟨hlegal, htc, -⟩ := id hl
  have hmax := cavlcLegal_bounds hlegal
  refine nextRun_lands hb (fun h => { hF h with zerosLeft := ?_, i := Nat.zero_le _ }) hl hsum htc ?_ (bound_mono hB ?_)
  · exact (hF h).tz
  · exact Nat.zero_add _
  · dsimp only
    omega

theorem startTotalZeros_lands (hb : s.busy = true) (hF : F → s.work.InRange) (hl : s.work.levelsOk)
    (hB : ∀ b ∈ B, s.work.count + 174 ≤ b) : Lands F B s (startTotalZeros s) := by
  unfold startTotalZeros
  split
  next h =>
    exact lands_goOn hb (fun h => { hF h with code := Nat.zero_le _ }) ⟨hl, h⟩ trivial
      fun b hB' => ⟨Nat.zero_le _, hB b hB'⟩
  next =>
    obtain ⟨-, -, htc, -⟩ := id hl
    refine startRuns_lands hb (fun h => { hF h with tz := Nat.zero_le _ }) hl htc (bound_mono hB ?_)
    dsimp only
    omega

theorem nextLevel_lands (hb : s.busy = true) (hF : F → s.work.InRange) (hl : s.work.levelsOk)
    (hsl : s.work.suffixLength ≤ 6)
    (hB : ∀ b ∈ B, s.work.count + (s.work.tc - s.work.i) * 60 + 174 ≤ b) : Lands F B s (nextLevel s) := by
  unfold nextLevel
  split_ifs with hi hi1
  · refine lands_goOn hb (fun h => { hF h with }) ⟨hl, hi1⟩ hsl (Work.within_of_le trivial hB ?_)
    simp only [Work.budget]
    omega
  · refine lands_goOn hb (fun h => { hF h with levelPrefix := Nat.zero_le _ })
      ⟨hl, by simpa using hi1, hi, Nat.zero_le _⟩ hsl (Work.within_of_le trivial hB ?_)
    simp only [Work.budget]
    omega
  · exact startTotalZeros_lands hb hF hl (bound_mono hB (by omega))

theorem coeffTokenFound_lands {v : Nat × Nat} (hb : s.busy = true) (hF : F → s.work.InRange)
    (hlegal : cavlcLegal s.work.maxN s.work.nC = true) (hv : v.1 ≤ 16 ∧ v.2 ≤ 3 ∧ v.2 ≤ v.1)
    (hB : ∀ b ∈ B, s.work.count + 1134 ≤ b) : Lands F B s (coeffTokenFound v s) := by
  obtain ⟨htc, ht1, hle⟩ := hv
  have hF' : F → ({ s.work with tc := v.1, t1 := v.2 } : Work).InRange := fun h => { hF h with tc := htc, t1 := ht1 }
  have hcount : ∀ b ∈ B, s.work.count ≤ b := (bound_mono hB (Nat.le_add_right _ _))
  unfold coeffTokenFound
  dsimp only
  split_ifs with hbudget hzero
  · exact lands_raise (s := { s with work := { s.work with tc := v.1, t1 := v.2 } }) hF' hcount
  · exact lands_goOn hb (fun h => { hF' h with tz := Nat.zero_le _ }) ⟨hlegal, .inl ⟨hzero, rfl⟩⟩ trivial
      fun b hB' => ⟨trivial, hcount b hB'⟩
  · have hsl := initialSuffixLength_le v.1 v.2
    refine nextLevel_lands hb (fun h => { hF' h with suffixLength := hsl, i := Nat.zero_le _ })
      ⟨hlegal, Nat.pos_of_ne_zero hzero, Nat.le_of_not_lt hbudget, hle, ht1⟩ hsl (bound_mono hB ?_)
    dsimp only
    omega

/-- One bit of a codeword of at most `len` bits whose values meet `P`. -/
theorem vlcStep_lands {α : Type} {T : VlcTable α} {len : Nat} {P : α → Prop} {se : SyntaxElement} {idx : Nat}
    {found : α → State → State} {b : Bool} (hT : ∀ row ∈ T, row.1.length ≤ len ∧ P row.2)
    (hF : F → s.work.InRange) (hcount : ∀ b ∈ B, s.work.count ≤ b)
    (hfound : ∀ v, P v → Lands F B s (found v { s with work := { s.work with code := [] } }))
    (hgoOn : s.work.code.length + 1 < len →
      Lands F B s { s with work := { s.work with code := s.work.code ++ [b] } }) :
    Lands F B s (vlcStep T se idx found b s) := by
  unfold vlcStep
  split
  next v hv =>
    exact hfound v (hT _ (vlcMatch_codeword hv)).2
  next h =>
    obtain ⟨row, hrow, hpre, hne⟩ := vlcMatch_unfinished h
    have hlen := (hT row hrow).1
    have hlt := lt_of_le_of_ne hpre.length_le fun h => hne (hpre.eq_of_length h)
    rw [List.length_append, List.length_singleton] at hlt
    exact hgoOn (hlt.trans_le hlen)
  next => exact lands_raise hF hcount

theorem coeffTokenStep_lands (hs : Sound F B s) (hb : s.busy = true) (hp : s.work.phase = .coeffToken) :
    Lands F B s (coeffTokenStep s) := by
  obtain ⟨hlegal, -, hB⟩ := hs.at hb hp
  simp only [Work.within, Work.codeOk, Work.budget] at hB
  refine bitRead_lands hs hb fun b rest log =>
    vlcStep_lands (P := fun v => v.1 ≤ 16 ∧ v.2 ≤ 3 ∧ v.2 ≤ v.1) (coeffTokenTable_rows _)
      (fun h => { hs.range h with }) (fun b hB' => ?_) (fun v hv => ?_) fun hlen => ?_
  · have := hB b hB'
    dsimp only
    omega
  · refine coeffTokenFound_lands hb (fun h => { hs.range h with code := Nat.zero_le _ }) hlegal hv fun b hB' => ?_
    have := hB b hB'
    dsimp only
    omega
  · dsimp only at hlen
    have hcode : (s.work.code ++ [b]).length ≤ 15 := by
      rw [List.length_append, List.length_singleton]
      omega
    refine lands_goOn hb (fun h => { hs.range h with code := hcode }) ?_ ?_ fun b hB' => ?_
    all_goals simp only [Work.phaseOk, Work.liveOk, Work.codeOk, Work.budget, hp]
    · exact hlegal
    · have := hB b hB'
      rw [List.length_append, List.length_singleton] at hcode ⊢
      omega

theorem trailingOneStep_lands (hs : Sound F B s) (hb : s.busy = true) (hp : s.work.phase = .trailingOne) :
    Lands F B s (trailingOneStep s) := by
  obtain ⟨⟨(hl : s.work.levelsOk), (hi : s.work.i < s.work.t1)⟩, hsl, hB⟩ := hs.at hb hp
  obtain ⟨hlegal, -, htc, ht1, ht1'⟩ := id hl
  have hmax := cavlcLegal_bounds hlegal
  simp only [Work.within, Work.codeOk, Work.budget, true_and] at hB
  refine bitRead_lands hs hb fun b rest log => nextLevel_lands hb (fun h => { hs.range h with
    levelVal := forall_mem_setIfInBounds _ (hs.range h).levelVal (trailingOneLevel_bound b), i := ?_ }) hl hsl
    (bound_mono hB ?_)
  · dsimp only
    omega
  · dsimp only
    omega

theorem finishLevel_lands (hb : s.busy = true) (hF : F → s.work.InRange) (hl : s.work.levelsOk)
    (hi : s.work.i < s.work.tc) (hsl : s.work.suffixLength ≤ 6) (hpre : s.work.levelPrefix ≤ 31)
    (hsuf : s.work.levelSuffix < 2 ^ suffixSize s.work.levelPrefix s.work.suffixLength)
    (hB : ∀ b ∈ B, s.work.count + (s.work.tc - (s.work.i + 1)) * 60 + 174 ≤ b) : Lands F B s (finishLevel s) := by
  have hcode := levelCodeOf_bound (decide (s.work.i = s.work.t1) && decide (s.work.t1 < 3)) hpre hsl hsuf
  have hsl' := nextSuffixLength_le (levelOfCode (levelCodeOf s.work.levelPrefix s.work.suffixLength
    s.work.levelSuffix (decide (s.work.i = s.work.t1) && decide (s.work.t1 < 3)))) hsl
  refine nextLevel_lands hb (fun h => { hF h with
    levelCode := lt_of_le_of_lt (Nat.le_add_right _ 2) hcode
    levelVal := forall_mem_setIfInBounds _ (hF h).levelVal (levelOfCode_bound hcode)
    suffixLength := hsl', i := ?_ }) hl hsl' hB
  have := (hF h).tc
  dsimp only
  omega

theorem startLevelSuffix_lands (hb : s.busy = true) (hF : F → s.work.InRange) (hl : s.work.levelsOk)
    (ht1 : s.work.t1 ≤ s.work.i) (hi : s.work.i < s.work.tc) (hsl : s.work.suffixLength ≤ 6)
    (hpre : s.work.levelPrefix ≤ 31)
    (hB : ∀ b ∈ B, s.work.count + (s.work.tc - s.work.i - 1) * 60 + 202 ≤ b) :
    Lands F B s (startLevelSuffix s) := by
  have hsize := suffixSize_le hpre hsl
  have hF' : F → ({ s.work with
      levelSuffixSize := suffixSize s.work.levelPrefix s.work.suffixLength
      levelSuffix := 0
      j := suffixSize s.work.levelPrefix s.work.suffixLength } : Work).InRange := fun h =>
    { hF h with levelSuffixSize := hsize, levelSuffix := by norm_num, j := hsize }
  unfold startLevelSuffix
  dsimp only
  split
  next h =>
    refine lands_goOn hb (fun h => { hF' h with })
      ⟨hl, ht1, hi, hpre, rfl, h, le_rfl, Nat.two_pow_pos _⟩ hsl (Work.within_of_le trivial hB ?_)
    simp only [Work.budget]
    omega
  next =>
    refine finishLevel_lands hb hF' hl hi hsl hpre (Nat.two_pow_pos _) (bound_mono hB ?_)
    dsimp only
    omega

theorem levelPrefixStep_lands (hs : Sound F B s) (hb : s.busy = true) (hp : s.work.phase = .levelPrefix) :
    Lands F B s (levelPrefixStep s) := by
  obtain ⟨⟨hl, ht1, hi, hpre⟩, hsl, hB⟩ := hs.at hb hp
  simp only [Work.within, Work.codeOk, Work.budget, true_and] at hB ht1 hi hpre
  refine bitRead_lands hs hb fun b rest log => ?_
  dsimp only
  split_ifs with hone hmax
  · refine startLevelSuffix_lands hb (fun h => { hs.range h with }) hl ht1 hi hsl hpre (bound_mono hB ?_)
    dsimp only
    omega
  · refine lands_raise (s := { s with bits := rest, portLog := log, work := { s.work with
        count := s.work.count + 1, levelPrefix := s.work.levelPrefix + 1 } })
      (fun h => { hs.range h with levelPrefix := Nat.succ_le_succ hpre }) (bound_mono hB ?_)
    dsimp only
    omega
  · have hpre' : s.work.levelPrefix + 1 ≤ 31 := by simpa [Config.levelPrefixMax] using hmax
    refine lands_goOn hb (fun h => { hs.range h with levelPrefix := Nat.succ_le_succ hpre }) ?_ ?_ (Work.within_of_le ?_ hB ?_)
    all_goals simp only [Work.phaseOk, Work.liveOk, Work.codeOk, Work.budget, hp]
    · exact ⟨hl, ht1, hi, hpre'⟩
    · exact hsl
    · omega

theorem levelSuffixStep_lands (hs : Sound F B s) (hb : s.busy = true) (hp : s.work.phase = .levelSuffix) :
    Lands F B s (levelSuffixStep s) := by
  obtain ⟨⟨hl, ht1, hi, hpre, hsize, hj, hjle, hsuf⟩, hsl, hB⟩ := hs.at hb hp
  simp only [Work.within, Work.codeOk, Work.budget, true_and] at hB ht1 hi hpre hsize hj hjle hsuf
  refine bitRead_lands hs hb fun b rest log => ?_
  have hsuf' : 2 * s.work.levelSuffix + b.toNat < 2 ^ (s.work.levelSuffixSize - (s.work.j - 1)) := by
    rw [show s.work.levelSuffixSize - (s.work.j - 1) = s.work.levelSuffixSize - s.work.j + 1 by omega, pow_succ]
    have := b.toNat_le
    omega
  have hF' : F → ({ s.work with
      count := s.work.count + 1, levelSuffix := 2 * s.work.levelSuffix + b.toNat, j := s.work.j - 1 } : Work).InRange :=
    fun h =>
    { hs.range h with
      levelSuffix := hsuf'.trans_le (Nat.pow_le_pow_right (by decide)
        ((Nat.sub_le _ _).trans (hs.range h).levelSuffixSize))
      j := (Nat.sub_le _ _).trans (hs.range h).j }
  dsimp only
  split
  next h =>
    refine finishLevel_lands hb hF' hl hi hsl hpre ?_ (bound_mono hB ?_)
    · dsimp only
      rwa [h, Nat.sub_zero, hsize] at hsuf'
    · dsimp only
      omega
  next h =>
    refine lands_goOn hb hF' ?_ ?_ (Work.within_of_le ?_ hB ?_)
    all_goals simp only [Work.phaseOk, Work.liveOk, Work.codeOk, Work.budget, hp]
    · exact ⟨hl, ht1, hi, hpre, hsize, Nat.pos_of_ne_zero h, (Nat.sub_le _ _).trans hjle, hsuf'⟩
    · exact hsl
    · omega

theorem totalZerosFound_lands {v : Nat} (hb : s.busy = true) (hF : F → s.work.InRange) (hl : s.work.levelsOk)
    (hv : v ≤ 15) (hB : ∀ b ∈ B, s.work.count + 165 ≤ b) : Lands F B s (totalZerosFound v s) := by
  obtain ⟨-, -, htc, -⟩ := id hl
  have hF' : F → ({ s.work with tz := v } : Work).InRange := fun h => { hF h with tz := hv.trans (by decide) }
  unfold totalZerosFound
  dsimp only
  split
  next =>
    exact lands_raise (s := { s with work := { s.work with tz := v } }) hF'
      (bound_mono hB (Nat.le_add_right _ _))
  next h =>
    refine startRuns_lands hb hF' hl ?_ hB
    simp only [State.maxNum] at h ⊢
    omega

theorem totalZerosStep_lands (hs : Sound F B s) (hb : s.busy = true) (hp : s.work.phase = .totalZeros) :
    Lands F B s (totalZerosStep s) := by
  obtain ⟨⟨hl, hlt⟩, -, hB⟩ := hs.at hb hp
  simp only [Work.within, Work.codeOk, Work.budget] at hB
  refine bitRead_lands hs hb fun b rest log =>
    vlcStep_lands (P := (· ≤ 15)) (totalZerosTable_rows _ _)
      (fun h => { hs.range h with }) (fun b hB' => ?_) (fun v hv => ?_) fun hlen => ?_
  · have := hB b hB'
    dsimp only
    omega
  · refine totalZerosFound_lands hb (fun h => { hs.range h with code := Nat.zero_le _ }) hl hv fun b hB' => ?_
    have := hB b hB'
    dsimp only
    omega
  · dsimp only at hlen
    have hcode : (s.work.code ++ [b]).length ≤ 8 := by
      rw [List.length_append, List.length_singleton]
      omega
    refine lands_goOn hb (fun h => { hs.range h with code := hcode.trans (by decide) }) ?_ ?_ fun b hB' => ?_
    all_goals simp only [Work.phaseOk, Work.liveOk, Work.codeOk, Work.budget, hp]
    · exact ⟨hl, hlt⟩
    · have := hB b hB'
      rw [List.length_append, List.length_singleton] at hcode ⊢
      omega

theorem runBeforeFound_lands {v : Nat} (hb : s.busy = true) (hF : F → s.work.InRange) (hl : s.work.levelsOk)
    (hv : v ≤ 14) (hi : s.work.i + 1 < s.work.tc) (hsum : s.work.tc + s.work.tz ≤ s.work.maxN.toNat)
    (hrun : s.work.runSum s.work.i + s.work.zerosLeft = s.work.tz)
    (hB : ∀ b ∈ B, s.work.count + (s.work.tc - 1 - (s.work.i + 1)) * 11 ≤ b) :
    Lands F B s (runBeforeFound v s) := by
  obtain ⟨hlegal, -, htc, -⟩ := id hl
  have hmax := cavlcLegal_bounds hlegal
  unfold runBeforeFound
  split
  next => exact lands_raise hF (bound_mono hB (Nat.le_add_right _ _))
  next h =>
    refine nextRun_lands hb (fun h => { hF h with
      runVal := forall_mem_setIfInBounds _ (hF h).runVal (hv.trans (by decide))
      zerosLeft := (Nat.sub_le _ _).trans (hF h).zerosLeft, i := ?_ }) hl hsum hi ?_ hB
    · dsimp only
      omega
    · rw [runSum_succ, ← runSum_congr (w := s.work)]
      · have hset : (s.work.runVal.setIfInBounds s.work.i v).getD s.work.i 0 = v := by
          simp [Vector.getD, show s.work.i < 16 by omega]
        dsimp only
        rw [hset]
        omega
      · intro m hm
        simp [Vector.getD, hm.ne']

theorem runBeforeStep_lands (hs : Sound F B s) (hb : s.busy = true) (hp : s.work.phase = .runBefore) :
    Lands F B s (runBeforeStep s) := by
  obtain ⟨⟨hl, hi, hzl, hsum, hrun⟩, -, hB⟩ := hs.at hb hp
  simp only [Work.within, Work.codeOk, Work.budget] at hB hi
  refine bitRead_lands hs hb fun b rest log =>
    vlcStep_lands (P := (· ≤ 14)) (runBeforeTable_rows _)
      (fun h => { hs.range h with }) (fun b hB' => ?_) (fun v hv => ?_) fun hlen => ?_
  · have := hB b hB'
    dsimp only
    omega
  · refine runBeforeFound_lands hb (fun h => { hs.range h with code := Nat.zero_le _ }) hl hv hi hsum hrun
      fun b hB' => ?_
    have := hB b hB'
    dsimp only
    omega
  · dsimp only at hlen
    have hcode : (s.work.code ++ [b]).length ≤ 10 := by
      rw [List.length_append, List.length_singleton]
      omega
    refine lands_goOn hb (fun h => { hs.range h with code := hcode.trans (by decide) }) ?_ ?_ fun b hB' => ?_
    all_goals simp only [Work.phaseOk, Work.liveOk, Work.codeOk, Work.budget, hp]
    · exact ⟨hl, hi, hzl, hsum, hrun⟩
    · have := hB b hB'
      rw [List.length_append, List.length_singleton] at hcode ⊢
      omega

theorem cavlcFinishStep_lands (hs : Sound F B s) (hb : s.busy = true) (hp : s.work.phase = .cavlcFinish) :
    Lands F B s (cavlcFinishStep s) := by
  obtain ⟨⟨hlegal, hruns⟩, -, -⟩ := hs.at hb hp
  have hmax := cavlcLegal_bounds hlegal
  obtain ⟨hend, hkeep⟩ := scatterLoop_spec s.work s.work.tc (-1) (zeroRange 0 s.maxNum s.coef) le_rfl
  have hpos : s.work.runSum s.work.tc + s.work.tc ≤ s.work.maxN.toNat := by
    obtain ⟨htc, -⟩ | ⟨hsum, hrun⟩ := hruns
    · dsimp only at htc
      simp [htc, Work.runSum]
    · dsimp only [Work.runSum] at hsum hrun ⊢
      omega
  refine .after (u := scatter s) ?_ rfl fun k hk hle => ?_
  · refine lands_complete (s := scatter s) (fun h => { hs.range h with coeffNum_ge := ?_, coeffNum_le := ?_ })
      (hs.count_le hb)
    all_goals
      simp only [scatter]
      dsimp only at hmax
      omega
  · simp only [scatter]
    rw [hkeep k hk (by simp only [State.maxNum] at hle; omega), zeroRange_get, if_neg (by omega)]

end

end Sys2Proof.Machine

/-! ## The invariant through the phases of CABAC_BLOCK -/

namespace Sys2Proof.Machine

section
variable {F : Prop} {B : Option Nat} {s : State}

/-- COEF from maxN on is kept by a write below it. -/
theorem setIfInBounds_kept {coef : Vector Word 64} {n m : Nat} {x : Word} (hn : n < m) :
    ∀ (k : Nat) (h : k < 64), m ≤ k → (coef.setIfInBounds n x)[k] = coef[k] := fun k _ hk =>
  Vector.getElem_setIfInBounds_ne _ (by omega)

theorem levelWalk_lands (n : Nat) (hb : s.busy = true) (hF : F → s.work.InRange)
    (hlegal : cabacLegal s.work.maxN = true) (hmax : s.work.numCoeff ≤ s.work.maxN.toNat)
    (hcounters : s.work.gt1 + s.work.eq1 + n ≤ s.work.numCoeff)
    (hB : ∀ b ∈ B, s.work.count + 74 * n ≤ b) : Lands F B s (levelWalk n s) := by
  induction n generalizing s with
  | zero => exact lands_goOn hb (fun h => { hF h with }) ⟨hlegal, hmax⟩ trivial fun b hB' => ⟨trivial, hB b hB'⟩
  | succ n ih =>
    have hn : n < s.work.maxN.toNat := by omega
    unfold levelWalk
    split
    next =>
      refine lands_goOn hb (fun h => { hF h with absm1 := Nat.zero_le _, binIdx := Nat.zero_le _, i := ?_ })
        ⟨⟨hlegal, ?_, hmax, hcounters⟩, (by decide : 0 < 14), rfl⟩ trivial (Work.within_of_le trivial hB ?_)
      · have := (hF h).numCoeff
        dsimp only
        omega
      · dsimp only
        omega
      · simp only [Work.budget]
        omega
    next =>
      refine .after (ih hb hF hlegal hmax ?_ (bound_mono hB ?_)) rfl (setIfInBounds_kept hn)
      · dsimp only
        omega
      · dsimp only
        omega

theorem nextScan_lands (hb : s.busy = true) (hF : F → s.work.InRange) (hlegal : cabacLegal s.work.maxN = true)
    (hmax : s.work.numCoeff ≤ s.work.maxN.toNat)
    (hscan : s.work.i + 1 < s.work.numCoeff → s.work.numCoeff = s.work.maxN.toNat)
    (hB : ∀ b ∈ B, s.work.count + 2 * (s.work.maxN.toNat - 1 - s.work.i) + 74 * s.work.maxN.toNat ≤ b) :
    Lands F B s (nextScan s) := by
  unfold nextScan endScan
  split
  next h =>
    refine lands_goOn hb (fun h => { hF h with }) ⟨hlegal, hscan h, h⟩ trivial (Work.within_of_le trivial hB ?_)
    simp only [Work.budget]
    omega
  next =>
    have hF' : ∀ sig, F → ({ s.work with sig := sig, gt1 := 0, eq1 := 0 } : Work).InRange := fun sig h =>
      { hF h with gt1 := Nat.zero_le _, eq1 := Nat.zero_le _ }
    refine .after (levelWalk_lands _ hb (hF' _) hlegal hmax ?_ (bound_mono hB ?_)) rfl fun _ _ _ => rfl
    · dsimp only
      omega
    · dsimp only
      omega

theorem startScan_lands (hb : s.busy = true) (hF : F → s.work.InRange) (hlegal : cabacLegal s.work.maxN = true)
    (hB : ∀ b ∈ B, s.work.count + 2 * (s.work.maxN.toNat - 1) + 74 * s.work.maxN.toNat ≤ b) :
    Lands F B s (startScan s) := by
  have hmax := cabacLegal_bounds hlegal
  exact nextScan_lands hb (fun h => { hF h with numCoeff := hmax.2.1, i := Nat.zero_le _ }) hlegal le_rfl
    (fun _ => rfl) hB

theorem codedBlockFlagStep_lands (hs : Sound F B s) (hb : s.busy = true) (hp : s.work.phase = .codedBlockFlag) :
    Lands F B s (codedBlockFlagStep s) := by
  obtain ⟨⟨hlegal, -⟩, -, hB⟩ := hs.at hb hp
  simp only [Work.within, Work.codeOk, Work.budget, true_and] at hB
  refine binRead_lands hs hb fun b rest log => ?_
  dsimp only
  split
  next =>
    refine startScan_lands hb (fun h => { hs.range h with }) hlegal (bound_mono hB ?_)
    dsimp only
    omega
  next =>
    refine lands_goOn hb (fun h => { hs.range h with numCoeff := Nat.zero_le _ }) ⟨hlegal, Nat.zero_le _⟩ trivial
      (Work.within_of_le trivial hB ?_)
    simp only [Work.budget]
    omega

theorem significanceStep_lands (hs : Sound F B s) (hb : s.busy = true) (hp : s.work.phase = .significance) :
    Lands F B s (significanceStep s) := by
  obtain ⟨⟨hlegal, (hnum : s.work.numCoeff = s.work.maxN.toNat), (hi : s.work.i + 1 < s.work.numCoeff)⟩, -, hB⟩ :=
    hs.at hb hp
  have hmax : s.work.maxN.toNat ≤ 64 := (cabacLegal_bounds hlegal).2.1
  simp only [Work.within, Work.codeOk, Work.budget, true_and] at hB
  refine binRead_lands hs hb fun b rest log => ?_
  dsimp only
  split
  next =>
    refine lands_goOn hb (fun h => { hs.range h with }) ⟨hlegal, hnum, hi⟩ trivial (Work.within_of_le trivial hB ?_)
    simp only [Work.budget]
    omega
  next =>
    refine nextScan_lands hb (fun h => { hs.range h with i := ?_ }) hlegal hnum.le (fun _ => hnum) (bound_mono hB ?_)
    · dsimp only
      omega
    · dsimp only
      omega

theorem lastFlagStep_lands (hs : Sound F B s) (hb : s.busy = true) (hp : s.work.phase = .lastFlag) :
    Lands F B s (lastFlagStep s) := by
  obtain ⟨⟨hlegal, (hnum : s.work.numCoeff = s.work.maxN.toNat), (hi : s.work.i + 1 < s.work.numCoeff)⟩, -, hB⟩ :=
    hs.at hb hp
  have hmax : s.work.maxN.toNat ≤ 64 := (cabacLegal_bounds hlegal).2.1
  simp only [Work.within, Work.codeOk, Work.budget, true_and] at hB
  have hle : ∀ b : Bool, (if b then s.work.i + 1 else s.work.numCoeff) ≤ s.work.maxN.toNat := by
    intro b
    split <;> omega
  refine binRead_lands hs hb fun b rest log => nextScan_lands hb
    (fun h => { hs.range h with numCoeff := (hle b).trans hmax, i := ?_ }) hlegal (hle b) (fun h => ?_)
    (bound_mono hB ?_)
  · dsimp only
    omega
  · dsimp only at h ⊢
    split at h
    · omega
    · rwa [if_neg ‹_›]
  · dsimp only
    omega

theorem absPrefixStep_lands (hs : Sound F B s) (hb : s.busy = true) (hp : s.work.phase = .absPrefix) :
    Lands F B s (absPrefixStep s) := by
  obtain ⟨⟨hw, (hbin : s.work.binIdx < 14), (habs : s.work.absm1 = s.work.binIdx)⟩, -, hB⟩ := hs.at hb hp
  simp only [Work.within, Work.codeOk, Work.budget, true_and] at hB
  have hF : F → ({ s.work with binIdx := s.work.binIdx + 1, absm1 := s.work.absm1 + 1 } : Work).InRange := fun h =>
    { hs.range h with binIdx := by dsimp only; omega, absm1 := by dsimp only; omega }
  refine binRead_lands hs hb fun b rest log => ?_
  dsimp only
  split_ifs with hone hmore
  · refine lands_goOn hb (fun h => { hF h with }) ?_ ?_ (Work.within_of_le ?_ hB ?_)
    all_goals simp only [Work.phaseOk, Work.liveOk, Work.codeOk, Work.budget, hp]
    · exact ⟨hw, hmore, congrArg (· + 1) habs⟩
    · omega
  · refine lands_goOn hb (fun h => { hF h with k := Nat.zero_le _ }) ⟨hw, ?_, ?_⟩ (Nat.zero_le _)
      (Work.within_of_le trivial hB ?_)
    · dsimp only
      omega
    · dsimp only
      omega
    · simp only [Work.budget]
      omega
  · refine lands_goOn hb (fun h => { hs.range h with }) hw trivial (Work.within_of_le trivial hB ?_)
    simp only [Work.budget]
    omega

theorem absUnaryStep_lands (hs : Sound F B s) (hb : s.busy = true) (hp : s.work.phase = .absUnary) :
    Lands F B s (absUnaryStep s) := by
  obtain ⟨⟨hw, (hbin : s.work.binIdx = 14 + s.work.k), (habs : s.work.absm1 = 13 + 2 ^ s.work.k)⟩,
    (hk : s.work.k ≤ 29), hB⟩ := hs.at hb hp
  simp only [Work.within, Work.codeOk, Work.budget, true_and] at hB
  have hF : F → ({ s.work with binIdx := s.work.binIdx + 1 } : Work).InRange := fun h =>
    { hs.range h with binIdx := by dsimp only; omega }
  have hpow : 2 ^ (s.work.k + 1) = 2 * 2 ^ s.work.k := Nat.pow_succ'
  have hpow29 : 2 ^ s.work.k ≤ 2 ^ 29 := Nat.pow_le_pow_right (by decide) hk
  refine binRead_lands hs hb fun b rest log => ?_
  dsimp only
  split_ifs with hone hmax hzero
  · refine lands_raise (s := { s with bins := rest, portLog := log, work := { s.work with
        count := s.work.count + 1, binIdx := s.work.binIdx + 1 } }) (fun h => { hF h with }) (bound_mono hB ?_)
    dsimp only
    omega
  · have hk' : s.work.k + 1 ≤ 29 := by simpa [Config.eg0KMax] using hmax
    have hpow29 : 2 ^ (s.work.k + 1) ≤ 2 ^ 29 := Nat.pow_le_pow_right (by decide) hk'
    have habs' : s.work.absm1 + 2 ^ s.work.k ≤ 2 ^ 30 + 12 := by omega
    refine lands_goOn hb (fun h => { hF h with k := hk', absm1 := habs' }) ?_ ?_ (Work.within_of_le ?_ hB ?_)
    all_goals simp only [Work.phaseOk, Work.liveOk, Work.codeOk, Work.budget, hp]
    · exact ⟨hw, by omega, by omega⟩
    · exact hk'
    · omega
  · refine lands_goOn hb (fun h => { hF h with }) hw trivial (Work.within_of_le trivial hB ?_)
    simp only [Work.budget]
    omega
  · refine lands_goOn hb (fun h => { hF h with }) ⟨hw, Nat.pos_of_ne_zero hzero, ?_, ?_⟩ trivial
      (Work.within_of_le trivial hB ?_)
    · dsimp only
      omega
    · dsimp only
      omega
    · simp only [Work.budget]
      omega

theorem absBitsStep_lands (hs : Sound F B s) (hb : s.busy = true) (hp : s.work.phase = .absBits) :
    Lands F B s (absBitsStep s) := by
  obtain ⟨⟨hw, (hk : 1 ≤ s.work.k), (hbin : s.work.binIdx + s.work.k ≤ 73),
    (habs : s.work.absm1 + 2 ^ s.work.k ≤ 2 ^ 30 + 13)⟩, -, hB⟩ := hs.at hb hp
  simp only [Work.within, Work.codeOk, Work.budget, true_and] at hB
  refine binRead_lands hs hb fun b rest log => ?_
  have habs' : s.work.absm1 + b.toNat * 2 ^ (s.work.k - 1) + 2 ^ (s.work.k - 1) ≤ 2 ^ 30 + 13 := by
    have hpow : 2 ^ s.work.k = 2 ^ (s.work.k - 1) + 2 ^ (s.work.k - 1) := by
      rw [← Nat.two_mul, ← Nat.pow_succ', Nat.succ_eq_add_one, Nat.sub_add_cancel hk]
    have hbit := Nat.mul_le_mul_right (2 ^ (s.work.k - 1)) b.toNat_le
    omega
  have hpos := Nat.two_pow_pos (s.work.k - 1)
  have hF : F → ({ s.work with
      count := s.work.count + 1, k := s.work.k - 1, binIdx := s.work.binIdx + 1
      absm1 := s.work.absm1 + b.toNat * 2 ^ (s.work.k - 1) } : Work).InRange := fun h =>
    { hs.range h with
      k := (Nat.sub_le _ _).trans (hs.range h).k
      binIdx := by dsimp only; omega
      absm1 := by dsimp only; omega }
  dsimp only
  split
  next =>
    refine lands_goOn hb (fun h => { hF h with }) hw trivial (Work.within_of_le trivial hB ?_)
    simp only [Work.budget]
    omega
  next h =>
    refine lands_goOn hb hF ?_ ?_ (Work.within_of_le ?_ hB ?_)
    all_goals simp only [Work.phaseOk, Work.liveOk, Work.codeOk, Work.budget, hp]
    · exact ⟨hw, Nat.pos_of_ne_zero h, by omega, habs'⟩
    · omega

theorem coeffSignStep_lands (hs : Sound F B s) (hb : s.busy = true) (hp : s.work.phase = .coeffSign) :
    Lands F B s (coeffSignStep s) := by
  obtain ⟨⟨hlegal, (hi : s.work.i < s.work.numCoeff), (hmax : s.work.numCoeff ≤ s.work.maxN.toNat),
    (hcounters : s.work.gt1 + s.work.eq1 + s.work.i + 1 ≤ s.work.numCoeff)⟩, -, hB⟩ := hs.at hb hp
  have hmax64 : s.work.maxN.toNat ≤ 64 := (cabacLegal_bounds hlegal).2.1
  simp only [Work.within, Work.codeOk, Work.budget, true_and] at hB
  refine binRead_lands hs hb fun b rest log =>
    .after (levelWalk_lands _ hb (fun h => { hs.range h with eq1 := ?_, gt1 := ?_ }) hlegal hmax ?_
      (bound_mono hB ?_)) rfl (setIfInBounds_kept (hi.trans_le hmax))
  · dsimp only
    split <;> omega
  · dsimp only
    split <;> omega
  · dsimp only
    split <;> omega
  · dsimp only
    omega

theorem cabacFinishStep_lands (hs : Sound F B s) (hb : s.busy = true) : Lands F B s (cabacFinishStep s) :=
  .after (lands_complete hs.range (hs.count_le hb)) rfl fun k hk hle => by
    rw [zeroRange_get, if_neg (by omega)]

/-! ## The invariant of every internal step -/

theorem zeroFinishStep_lands (hs : Sound F B s) (hb : s.busy = true) : Lands F B s (zeroFinishStep s) :=
  .after (lands_complete hs.range (hs.count_le hb)) rfl fun k hk hle => by
    rw [zeroRange_get, if_neg (by omega)]

/-- An internal step of a BUSY command keeps the invariant, writes no COEF from maxN on, and ends the command within
its bound (R32, R184, R250). -/
theorem rcdStep_lands (hs : Sound F B s) (hb : s.busy = true) : Lands F B s (rcdStep s) := by
  unfold rcdStep
  rw [if_pos hb]
  split <;> rename_i hp
  · exact (hs.at hb hp).1.elim
  · exact coeffTokenStep_lands hs hb hp
  · exact trailingOneStep_lands hs hb hp
  · exact levelPrefixStep_lands hs hb hp
  · exact levelSuffixStep_lands hs hb hp
  · exact totalZerosStep_lands hs hb hp
  · exact runBeforeStep_lands hs hb hp
  · exact cavlcFinishStep_lands hs hb hp
  · exact codedBlockFlagStep_lands hs hb hp
  · exact significanceStep_lands hs hb hp
  · exact lastFlagStep_lands hs hb hp
  · exact absPrefixStep_lands hs hb hp
  · exact absUnaryStep_lands hs hb hp
  · exact absBitsStep_lands hs hb hp
  · exact coeffSignStep_lands hs hb hp
  · exact cabacFinishStep_lands hs hb
  · exact zeroFinishStep_lands hs hb

theorem rcdStep_sound (s : State) (hs : Sound F B s) : Sound F B (rcdStep s) := by
  cases hb : s.busy with
  | false => rwa [rcdStep_of_not_busy hb]
  | true => exact (rcdStep_lands hs hb).1

end

end Sys2Proof.Machine

/-! ## The invariant at acceptance and along every step of the machine -/

namespace Sys2Proof.Machine

section
variable {F : Prop} {B : Option Nat} {s t : State} {i : Instr}

theorem latch_inRange {w : Word} (h : s.work.InRange) : (latch w s).work.InRange := { h with }

/-- The acceptance of a legal command establishes the invariant, with the bound of R250. -/
theorem accepted_lands (hwf : i.wellFormed = true) (hF : F → s.work.InRange) (hB : ∀ b ∈ B, commandBound i ≤ b) :
    Lands F B (latch (encode i) { s with cmd := encode i, done := false }) (accepted i s) := by
  have hF' : F → (latch (encode i) { s with cmd := encode i, done := false }).work.InRange := fun h =>
    latch_inRange (s := { s with cmd := encode i, done := false }) (hF h)
  cases i with
  | cavlcBlock maxN nC =>
    refine lands_goOn rfl (fun h => { hF' h with code := Nat.zero_le _ }) ?_ trivial fun b hB' => ⟨Nat.zero_le _, ?_⟩
    · change cavlcLegal (maxNField (encode _)) (nCField (encode _)) = true
      rwa [encode, maxNField_cmd32, nCField_cmd32]
    · simpa only [Work.budget, latch_count, List.length_nil, commandBound, Nat.zero_add] using hB b hB'
  | cabacBlock maxN cat =>
    have hlegal : cabacLegal (maxNField (encode (.cabacBlock maxN cat))) = true := by
      rwa [encode, maxNField_cmd32]
    have hbound : ∀ b ∈ B, 1 + 2 * (maxN.toNat - 1) + 74 * maxN.toNat ≤ b ∨
        maxN.toNat = 64 ∧ 2 * (maxN.toNat - 1) + 74 * maxN.toNat ≤ b := by
      intro b hB'
      have := hB b hB'
      simp only [commandBound] at this
      split at this <;> omega
    unfold accepted startOf startCabac
    dsimp only
    split
    next h64 =>
      refine .after (startScan_lands rfl (fun h => { hF' h with }) hlegal fun b hB' => ?_) rfl fun _ _ _ => rfl
      have := hbound b hB'
      simp only [encode, latch_count, latch_maxN, maxNField_cmd32]
      omega
    next h64 =>
      refine lands_goOn rfl (fun h => { hF' h with }) ⟨hlegal, h64⟩ trivial fun b hB' => ⟨trivial, ?_⟩
      have := hbound b hB'
      simp only [State.maxNum, encode, latch_maxN, maxNField_cmd32] at h64
      simp only [Work.budget, encode, latch_count, latch_maxN, maxNField_cmd32]
      omega
  | zeroBlock maxN =>
    refine lands_goOn rfl (fun h => { hF' h with }) ?_ trivial fun b _ => ⟨trivial, Nat.zero_le b⟩
    change zeroLegal (maxNField (encode _)) = true
    rwa [encode, maxNField_cmd32]

theorem Lands.rcdStep (h : Lands F B s t) (hm : t.work.maxN = s.work.maxN) : Lands F B s (rcdStep t) := by
  cases hb : t.busy with
  | false => rwa [rcdStep_of_not_busy hb]
  | true => exact (rcdStep_lands h.1 hb).after hm fun k hk hle => h.2.1 k hk hle

/-- The whole run after an acceptance lands. -/
theorem Lands.proceed (h : Lands F B s t) (hm : t.work.maxN = s.work.maxN) : Lands F B s (proceed t) :=
  (proceed_keeps (P := fun u => Lands F B s u ∧ u.work.maxN = s.work.maxN)
    (fun u hu => ⟨hu.1.rcdStep hu.2, (rcdStep_keepsControl u).operands.2.1.trans hu.2⟩) t ⟨h, hm⟩).1

theorem accepted_keepsControl (i : Instr) (s : State) :
    KeepsControl (latch (encode i) { s with cmd := encode i, done := false }) (accepted i s) :=
  (startOf_progress i _).keepsControl

/-- A legal command, once accepted, lands however far it runs in the step of its acceptance. -/
theorem proceed_accepted_lands (hwf : i.wellFormed = true) (hF : F → s.work.InRange)
    (hB : ∀ b ∈ B, commandBound i ≤ b) :
    Lands F B (latch (encode i) { s with cmd := encode i, done := false }) (proceed (accepted i s)) :=
  (accepted_lands hwf hF hB).proceed (accepted_keepsControl i s).operands.2.1

/-- Out of BUSY the invariant asks for the ranges only. -/
theorem Sound.of_idle (hb : s.busy = false) (hp : s.work.phase = .idle) (hF : F → s.work.InRange) : Sound F B s :=
  ⟨hF, fun h => by simp [hb] at h, fun _ => hp⟩

theorem softReset_work (s : State) : (softReset s).work = { s.work with phase := .idle } := by
  unfold softReset
  split <;> simp

theorem assertReset_work (s : State) : (assertReset s).work = { s.work with phase := .idle } := by
  simp [assertReset]

/-- The invariant with its bound on RES_COUNT (R31). -/
def Bounded (F : Prop) (B : Option Nat) (s : State) : Prop := Sound F B s ∧ ∀ b ∈ B, s.resCount.toNat ≤ b

/-- The invariant depends on the internal registers, BUSY and RES_COUNT alone. -/
theorem Bounded.congr (hs : Bounded F B s) (hw : t.work = s.work) (hb : t.busy = s.busy)
    (hr : t.resCount = s.resCount) : Bounded F B t := by
  obtain ⟨⟨hrange, hphase, hidle⟩, hres⟩ := hs
  rw [← hw, ← hb] at hphase
  exact ⟨⟨hw ▸ hrange, hphase, by rwa [hw, hb]⟩, by rwa [hr]⟩

theorem rcdStep_bounded (s : State) (hs : Bounded F B s) : Bounded F B (rcdStep s) := by
  obtain ⟨hsound, hres⟩ := hs
  refine ⟨rcdStep_sound s hsound, fun b hB => ?_⟩
  cases hb : s.busy with
  | false =>
    rw [rcdStep_of_not_busy hb]
    exact hres b hB
  | true =>
    cases hb' : (rcdStep s).busy with
    | false => exact (rcdStep_lands hsound hb).2.2 hb' b hB
    | true =>
      rw [(rcdStep_keepsOutcome hb').2.1.resCount]
      exact hres b hB

theorem accepted_bounded (hwf : i.wellFormed = true) (hB : ∀ b ∈ B, commandBound i ≤ b) (hs : Bounded F B s) :
    Bounded F B (accepted i s) := by
  obtain ⟨hsound, hres⟩ := hs
  obtain ⟨hsound', -, hres'⟩ := accepted_lands hwf hsound.range hB
  refine ⟨hsound', fun b hB' => ?_⟩
  cases hb : (accepted i s).busy with
  | false => exact hres' hb b hB'
  | true =>
    rw [show (accepted i s).resCount = s.resCount from ((startOf_progress i _).keepsOutcome hb).1.resCount]
    exact hres b hB'

/-- Every step of the machine keeps the invariant, with every bound that is one of every command (R37, R40, R250). -/
theorem step_bounded (hB : ∀ i : Instr, i.wellFormed = true → ∀ b ∈ B, commandBound i ≤ b) (hs : Bounded F B s)
    (h : step s = .next t) : Bounded F B t := by
  refine step_keeps (P := Bounded F B) rcdStep_bounded (fun _ _ _ _ hs => hs.congr rfl rfl rfl)
    (fun _ hs => hs.congr rfl rfl rfl) ?refuse (fun i s _ _ hwf hs => accepted_bounded hwf (hB i hwf) hs) ?ctrl ?status ?reset hs h
  case refuse =>
    exact fun code w s _ _ hs => ⟨.of_idle rfl rfl fun h => (hs.1.range h).idle, fun b _ => Nat.zero_le b⟩
  case ctrl =>
    intro w s hs
    unfold writeCtrl
    split
    · refine ⟨.of_idle rfl rfl fun h => ?_, fun b _ => Nat.zero_le b⟩
      rw [softReset_work]
      exact (hs.1.range h).idle
    · exact hs.congr rfl rfl rfl
  case status =>
    intro w s hs
    rw [writeStatus_eq]
    exact hs.congr rfl rfl rfl
  case reset =>
    intro b s hs
    cases b with
    | true =>
      refine ⟨.of_idle (by simp [resetInput, assertReset]) ?_ fun h => ?_, fun b _ => ?_⟩
      · exact congrArg Work.phase (assertReset_work s)
      · rw [resetInput, if_pos rfl, assertReset_work]
        exact (hs.1.range h).idle
      · simp [resetInput, assertReset]
    | false => exact hs.congr rfl rfl rfl

end

/-- No command consumes more than 4862 (R250). -/
theorem commandBound_le {i : Instr} (hwf : i.wellFormed = true) : commandBound i ≤ 4862 := by
  cases i with
  | cavlcBlock maxN nC => exact (by decide : 1150 ≤ 4862)
  | cabacBlock maxN cat =>
    have hmax := cabacLegal_bounds hwf
    unfold commandBound
    dsimp only
    split <;> omega
  | zeroBlock maxN => exact Nat.zero_le _

/-- Settles O52: the invariant `Sound` without a bound is `WorkOk`, and every step keeps it. -/
theorem stepKeepsRegistersInRange : Obligations.StepKeepsRegistersInRange := fun s t hs h =>
  (workOk_iff_sound t).mpr
    (step_bounded (B := none) (fun _ _ => nofun) ⟨(workOk_iff_sound s).mp hs, nofun⟩ h).1

/-- Settles O53: the invariant `Sound` with the bound 4862, which is one of every command, is `CountOk`, and every step
keeps it. -/
theorem stepKeepsConsumptionBound : Obligations.StepKeepsConsumptionBound := by
  intro s t hs h
  obtain ⟨hsound, hres⟩ := (countOk_iff_sound s).mp hs
  obtain ⟨hsound', hres'⟩ := step_bounded (fun i hwf b hb => by cases hb; exact commandBound_le hwf)
    ⟨hsound, fun b hb => by cases hb; exact hres⟩ h
  exact (countOk_iff_sound t).mpr ⟨hsound', hres' 4862 rfl⟩

/-- Settles O54: the flags are all 0 and the registers all 0 and idle after reset. -/
theorem resetMeetsInvariants : Obligations.ResetMeetsInvariants :=
  ⟨by unfold State.FlagsOk; decide,
   ⟨by unfold Work.fits; decide, nofun, fun _ => rfl⟩, by decide, nofun⟩

/-- Settles O33: a legal command from a Ready state ends within its own bound, whatever the internal registers held
before. -/
theorem consumptionBounds : Obligations.ConsumptionBounds := by
  rintro i s t ⟨hb, he, -⟩ hwf h hend
  refine ⟨?_, commandBound_le hwf⟩
  obtain ⟨h', -⟩ | ⟨-, -, hwf', -⟩ | ⟨-, -, -, rfl⟩ := exec_cases h
  · simp [hb, he] at h'
  · simp [hwf] at hwf'
  · obtain ⟨-, -, hres⟩ := proceed_accepted_lands (F := False) (B := some (commandBound i)) (s := s) hwf nofun
      fun b hB => by cases hB; exact le_rfl
    exact hres hend _ rfl

end Sys2Proof.Machine

/-! ## Frames of an internal step and of the commands -/

namespace Sys2Proof.Machine

open Sys2Proof.Claims

theorem Progress.samePorts {o : BitVec 4} {s t : State} (h : Progress o s t) : SamePorts s t := by
  obtain ⟨w, c, rfl, -, -⟩ | ⟨code, se, idx, w, c, rfl, -⟩ | ⟨tc, t1, tz, n, b, w, c, rfl, -⟩ := h
  · exact ⟨rfl, rfl, rfl⟩
  · exact ⟨by simp, by simp, by simp⟩
  · exact ⟨rfl, rfl, rfl⟩

/-- At most one transaction, with the first answer of the port of the command in progress (R55, R58, R184). -/
theorem rcdStep_ports (s : State) :
    SamePorts s (rcdStep s) ∨
    (s.work.phase.op = 1 ∧ ∃ a, s.bits = a :: (rcdStep s).bits ∧ (rcdStep s).bins = s.bins ∧
      (rcdStep s).portLog = .bitRead a :: s.portLog) ∨
    (s.work.phase.op = 2 ∧ ∃ req a, s.bins = a :: (rcdStep s).bins ∧ (rcdStep s).bits = s.bits ∧
      (rcdStep s).portLog = .binRead req a :: s.portLog) := by
  cases hb : s.busy with
  | false =>
    rw [rcdStep_of_not_busy hb]
    exact .inl ⟨rfl, rfl, rfl⟩
  | true =>
    obtain ⟨u, hu, ht⟩ := rcdStep_steps s hb
    obtain ⟨hbits, hbins, hlog⟩ := ht.samePorts
    rw [hbits, hbins, hlog]
    cases hu with
    | none => exact .inl ⟨hbits, hbins, hlog⟩
    | bit h hop => exact .inr (.inl ⟨hop, _, h, rfl, rfl⟩)
    | bin req h hop => exact .inr (.inr ⟨hop, req, _, h, rfl, rfl⟩)

/-- Settles O38: one transaction at most from the shape of an internal step; the frame from the same shape and, for
COEF, from the invariant. -/
theorem oneTransactionPerInternalStep : Obligations.OneTransactionPerInternalStep := by
  refine ⟨fun s => ?_, fun s hs => ?_⟩
  · obtain h | ⟨-, h⟩ | ⟨-, h⟩ := rcdStep_ports s
    · exact .inl h
    · exact .inr (.inl h)
    · exact .inr (.inr h)
  · have hsound := (workOk_iff_sound s).mp hs
    have hcoef : ∀ (k : Nat) (h : k < 64), s.maxNum ≤ k → (rcdStep s).coef[k] = s.coef[k] := by
      intro k hk hle
      cases hb : s.busy with
      | false => rw [rcdStep_of_not_busy hb]
      | true => exact (rcdStep_lands hsound hb).2.1 k hk hle
    have hc := rcdStep_keepsControl s
    obtain ⟨hop, hmaxN, hnC, hcat⟩ := hc.operands
    refine ⟨hcoef, hc.ieDone, hc.ieErr, hc.ovr, hc.cmd, hc.inReset, hc.env, hc.resp, hop, hmaxN, hnC, hcat,
      fun hb => ?_⟩
    obtain ⟨-, ho, -⟩ := rcdStep_keepsOutcome hb
    exact ⟨ho.done, ho.err, ho.errCode, ho.errSe, ho.errIdx, ho.resTc, ho.resT1, ho.resTz, ho.resNumCoeff,
      ho.resCbf, ho.resCount, ho.draws⟩

/-- What every command leaves unchanged, whatever its outcome (R32, R183). -/
theorem exec_commandFrame {i : Instr} {s t : State} (h : exec i s = .next t) :
    CommandFrame i (maxNField (encode i)).toNat s t := by
  obtain ⟨hdrop, rfl⟩ | ⟨hb, he, -, rfl⟩ | ⟨hb, he, hwf, rfl⟩ := exec_cases h
  · refine ⟨rfl, rfl, rfl, rfl, rfl, fun _ _ _ => rfl, fun _ => rfl, fun hb he => ?_⟩
    simp [hb, he] at hdrop
  · exact ⟨rfl, rfl, rfl, rfl, rfl, fun _ _ _ => rfl, fun h => by simp [hb, he] at h, fun _ _ => ⟨rfl, rfl⟩⟩
  · have hc := (accepted_keepsControl i s).trans (proceed_keepsControl _)
    obtain ⟨-, hcoef, -⟩ := proceed_accepted_lands (F := False) (B := none) (s := s) hwf nofun nofun
    exact ⟨hc.ieDone, hc.ieErr, hc.inReset, hc.env, hc.resp, hcoef, fun h => by simp [hb, he] at h,
      fun _ _ => ⟨hc.ovr, hc.cmd⟩⟩

/-- Bits are taken from the front of the bit port's answers, each recorded; the bin port is not used (R55). -/
def TakesBits (s t : State) : Prop :=
  t.bins = s.bins ∧ ∃ used, s.bits = used ++ t.bits ∧ t.portLog = (used.map Transaction.bitRead).reverse ++ s.portLog

/-- Bins are taken from the front of the bin port's answers, each recorded; the bit port is not used (R58). -/
def TakesBins (s t : State) : Prop :=
  t.bits = s.bits ∧ ∃ used : List (BinRequest × Answer), s.bins = used.map (·.2) ++ t.bins ∧
    t.portLog = (used.map fun u => Transaction.binRead u.1 u.2).reverse ++ s.portLog

section
variable {s t : State}

theorem TakesBits.of_samePorts (h : SamePorts s t) : TakesBits s t := by
  obtain ⟨hbits, hbins, hlog⟩ := h
  exact ⟨hbins, [], hbits.symm, hlog⟩

theorem TakesBins.of_samePorts (h : SamePorts s t) : TakesBins s t := by
  obtain ⟨hbits, hbins, hlog⟩ := h
  exact ⟨hbits, [], hbins.symm, hlog⟩

/-- A phase of CAVLC_BLOCK takes one more bit or none. -/
theorem TakesBits.rcdStep (h : TakesBits s t) (hop : t.work.phase.op = 1) : TakesBits s (rcdStep t) := by
  obtain ⟨hbins, used, hbits, hlog⟩ := h
  obtain ⟨hb, hn, hl⟩ | ⟨-, a, hb, hn, hl⟩ | ⟨hop', -⟩ := rcdStep_ports t
  · exact ⟨hn.trans hbins, used, by rw [hbits, hb], hl.trans hlog⟩
  · exact ⟨hn.trans hbins, used ++ [a], by rw [hbits, hb, List.append_assoc]; rfl, by simp [hl, hlog]⟩
  · rw [hop] at hop'
    cases hop'

/-- A phase of CABAC_BLOCK takes one more bin or none. -/
theorem TakesBins.rcdStep (h : TakesBins s t) (hop : t.work.phase.op = 2) : TakesBins s (rcdStep t) := by
  obtain ⟨hbits, used, hbins, hlog⟩ := h
  obtain ⟨hb, hn, hl⟩ | ⟨hop', -⟩ | ⟨-, req, a, hn, hb, hl⟩ := rcdStep_ports t
  · exact ⟨hb.trans hbits, used, by rw [hbins, hn], hl.trans hlog⟩
  · rw [hop] at hop'
    cases hop'
  · exact ⟨hb.trans hbits, used ++ [(req, a)], by simp [hbins, hn], by simp [hl, hlog]⟩

/-- What the steps of command `i` keep, in its own phases, is kept by the command, which else makes no transaction. -/
theorem exec_keeps {i : Instr} {P : State → Prop} (h : exec i s = .next t)
    (hsame : ∀ u, SamePorts s u → P u)
    (hstep : ∀ u, P u → u.busy = true → u.work.phase.op = opField (encode i) → P (rcdStep u)) : P t := by
  obtain ⟨-, rfl⟩ | ⟨-, -, -, rfl⟩ | ⟨-, -, -, rfl⟩ := exec_cases h
  · exact hsame _ ⟨rfl, rfl, rfl⟩
  · exact hsame _ ⟨rfl, rfl, rfl⟩
  · have hstart := startOf_progress i (latch (encode i) { s with cmd := encode i, done := false })
    refine (proceed_keeps (P := fun u => P u ∧ (u.busy = true → u.work.phase.op = opField (encode i))) ?_ _
      ⟨hsame _ hstart.samePorts, fun hb => (hstart.keepsOutcome hb).2⟩).1
    rintro u ⟨hu, hop⟩
    cases hb : u.busy with
    | false =>
      rw [rcdStep_of_not_busy hb]
      exact ⟨hu, hop⟩
    | true => exact ⟨hstep u hu hb (hop hb), fun hb' => (rcdStep_keepsOutcome hb').2.2.trans (hop hb)⟩

end

/-- Settles O16: the frame of every command, and bits taken one a step. -/
theorem cavlcBlockFrame : Obligations.CavlcBlockFrame := by
  intro maxN nC s t h
  have hframe := exec_commandFrame h
  rw [encode, maxNField_cmd32] at hframe
  refine ⟨hframe, exec_keeps (P := TakesBits s) h (fun _ => .of_samePorts) fun u hu _ hop => hu.rcdStep ?_⟩
  rwa [encode, opField_cmd32] at hop

/-- Settles O27: the frame of every command, and bins taken one a step. -/
theorem cabacBlockFrame : Obligations.CabacBlockFrame := by
  intro maxN cat s t h
  have hframe := exec_commandFrame h
  rw [encode, maxNField_cmd32] at hframe
  refine ⟨hframe, exec_keeps (P := TakesBins s) h (fun _ => .of_samePorts) fun u hu _ hop => hu.rcdStep ?_⟩
  rwa [encode, opField_cmd32] at hop

/-- The only phase of ZERO_BLOCK (R180). -/
theorem rcdStep_of_zeroFinish {s : State} (hb : s.busy = true) (hp : s.work.phase = .zeroFinish) :
    rcdStep s = zeroFinishStep s := by
  simp only [rcdStep, hb, hp, if_true]

/-- Settles O10: the frame of every command; the one step of ZERO_BLOCK makes no transaction and draws no free
value. -/
theorem zeroBlockFrame : Obligations.ZeroBlockFrame := by
  intro maxN s t h
  have hframe := exec_commandFrame h
  rw [encode, maxNField_cmd32] at hframe
  refine ⟨hframe, ?_⟩
  obtain ⟨-, rfl⟩ | ⟨-, -, -, rfl⟩ | ⟨-, -, -, rfl⟩ := exec_cases h
  · exact ⟨⟨rfl, rfl, rfl⟩, rfl⟩
  · exact ⟨⟨rfl, rfl, rfl⟩, rfl⟩
  · refine (proceed_keeps (P := fun u => (SamePorts s u ∧ u.draws = s.draws) ∧
      (u.busy = true → u.work.phase = .zeroFinish)) ?_ (accepted (.zeroBlock maxN) s) ⟨⟨⟨rfl, rfl, rfl⟩, rfl⟩, fun _ => rfl⟩).1
    rintro u ⟨hu, hp⟩
    cases hb : u.busy with
    | false =>
      rw [rcdStep_of_not_busy hb]
      exact ⟨hu, hp⟩
    | true =>
      rw [rcdStep_of_zeroFinish hb (hp hb)]
      exact ⟨hu, nofun⟩

end Sys2Proof.Machine

/-! ## Host accesses, and which registers a step of the machine can change -/

namespace Sys2Proof.Machine

open Sys2Proof.Claims

section
variable {s : State} {off : BitVec 9}

theorem hostAccess_read (hr : s.inReset = false) (hoff : off.toNat % 4 = 0) :
    hostAccess (.read off 4) s = .next
      (if unspecifiedNow off s then
        { s with resp := some (.data (Config.freeWord s.draws)), draws := s.draws + 1 }
      else { s with resp := some (.data (regValue off s)) }) := by
  simp [hostAccess, hostRead, accessOk, hr, hoff]

/-- A read of a register that is specified answers its value and changes nothing else. -/
theorem hostAccess_read_specified (hr : s.inReset = false) (hoff : off.toNat % 4 = 0)
    (hs : unspecifiedNow off s = false) :
    hostAccess (.read off 4) s = .next { s with resp := some (.data (regValue off s)) } := by
  rw [hostAccess_read hr hoff, if_neg (by simp [hs])]

/-- A read of a register that is unspecified answers the next free value. -/
theorem hostAccess_read_unspecified (hr : s.inReset = false) (hoff : off.toNat % 4 = 0)
    (hs : unspecifiedNow off s = true) :
    hostAccess (.read off 4) s =
      .next { s with resp := some (.data (Config.freeWord s.draws)), draws := s.draws + 1 } := by
  rw [hostAccess_read hr hoff, if_pos hs]

theorem hostAccess_write (hr : s.inReset = false) (hoff : off.toNat % 4 = 0) (w : Word) :
    hostAccess (.write off 4 w) s =
      if off = offCmd then writeCmd w { s with resp := some .done }
      else if off = offCtrl then .next (writeCtrl w { s with resp := some .done })
      else if off = offStatus then .next (writeStatus w { s with resp := some .done })
      else .next { s with resp := some .done } := by
  simp [hostAccess, hostWrite, accessOk, hr, hoff]

/-- A write to CTRL takes effect at once (R186). -/
theorem hostAccess_write_ctrl (hr : s.inReset = false) (w : Word) :
    hostAccess (.write 0x004 4 w) s = .next (writeCtrl w { s with resp := some .done }) :=
  hostAccess_write hr rfl w

/-- A write to STATUS takes effect at once (R187). -/
theorem hostAccess_write_status (hr : s.inReset = false) (w : Word) :
    hostAccess (.write 0x008 4 w) s = .next (writeStatus w { s with resp := some .done }) :=
  hostAccess_write hr rfl w

/-- Which reads are specified in every state: below the result registers, and between them and COEF (R34). -/
theorem unspecifiedNow_of_control (h : off.toNat < 0x014 ∨ 0x028 < off.toNat ∧ off.toNat < 0x100) :
    unspecifiedNow off s = false := by
  unfold unspecifiedNow
  rw [← Bool.not_eq_true]
  simp only [Bool.and_eq_true, Bool.or_eq_true, decide_eq_true_eq]
  omega

theorem unspecifiedNow_of_not_busy (h : s.busy = false) : unspecifiedNow off s = false := by
  simp [unspecifiedNow, h]

/-- No register below the result registers' last one is at a higher offset. -/
theorem regValue_of_high (h : 0x028 < off.toNat) :
    regValue off s = if 0x100 ≤ off.toNat then s.coef.getD (coefIndex off) 0 else 0 := by
  have hne : ∀ {x : BitVec 9}, x.toNat ≤ 0x028 → off ≠ x := by
    rintro x hx rfl
    omega
  unfold regValue
  rw [if_neg (hne (by decide)), if_neg (hne (by decide)), if_neg (hne (by decide)), if_neg (hne (by decide)),
    if_neg (hne (by decide)), if_neg (hne (by decide)), if_neg (hne (by decide)), if_neg (hne (by decide)),
    if_neg (hne (by decide)), if_neg (hne (by decide)), if_neg (hne (by decide))]

theorem regValue_of_unmapped (hlo : 0x02C ≤ off.toNat) (hhi : off.toNat ≤ 0x0FC) : regValue off s = 0 := by
  rw [regValue_of_high (by omega), if_neg (by omega)]

/-- The offset of COEF[k] (R20). -/
theorem toNat_coefOffset {k : Nat} (h : k < 64) : (BitVec.ofNat 9 (0x100 + 4 * k)).toNat = 0x100 + 4 * k := by
  rw [BitVec.toNat_ofNat]
  omega

theorem coefIndex_coefOffset {k : Nat} (h : k < 64) : coefIndex (BitVec.ofNat 9 (0x100 + 4 * k)) = k := by
  rw [coefIndex, toNat_coefOffset h]
  omega

theorem regValue_coefOffset {k : Nat} (h : k < 64) :
    regValue (BitVec.ofNat 9 (0x100 + 4 * k)) s = s.coef[k] := by
  have hoff := toNat_coefOffset h
  rw [regValue_of_high (by omega), if_pos (by omega), coefIndex_coefOffset h]
  simp [Vector.getD, h]

/-- COEF[k] is unspecified exactly while BUSY and below maxN (R34). -/
theorem unspecifiedNow_coefOffset {k : Nat} (h : k < 64) :
    unspecifiedNow (BitVec.ofNat 9 (0x100 + 4 * k)) s = (s.busy && decide (k < s.maxNum)) := by
  have hoff := toNat_coefOffset h
  have hhi : ¬ 0x100 + 4 * k ≤ 0x028 := by omega
  have hlo : 0x100 ≤ 0x100 + 4 * k := by omega
  simp only [unspecifiedNow, coefIndex_coefOffset h, hoff, hhi, hlo, decide_false, decide_true, Bool.and_false,
    Bool.false_or, Bool.true_and]

end

theorem writeCtrl_of_srst_zero {w : Word} {s : State} (hw : w.getLsbD 31 = false) :
    writeCtrl w s = { s with ieDone := w.getLsbD 0, ieErr := w.getLsbD 1 } := by
  rw [writeCtrl, if_neg (by rw [hw]; exact Bool.false_ne_true)]

theorem writeCtrl_of_srst_one {w : Word} {s : State} (hw : w.getLsbD 31 = true) :
    writeCtrl w s = softReset { s with ieDone := w.getLsbD 0, ieErr := w.getLsbD 1 } := by
  rw [writeCtrl, if_pos hw]

theorem softReset_irq (s : State) : (softReset s).irq = false := by
  simp [softReset, State.irq]

theorem ctrlWord_fields (s : State) :
    s.ctrlWord.getLsbD 0 = s.ieDone ∧ s.ctrlWord.getLsbD 1 = s.ieErr ∧ s.ctrlWord.extractLsb' 2 30 = 0 := by
  unfold State.ctrlWord flagBit
  simp only [BitVec.getLsbD_append]
  refine ⟨by simp, by simp, ?_⟩
  ext k hk
  simp only [BitVec.getElem_extractLsb', BitVec.getLsbD_append]
  interval_cases k <;> simp

theorem statusWord_fields (s : State) :
    s.statusWord.getLsbD 0 = s.busy ∧ s.statusWord.getLsbD 1 = s.done ∧ s.statusWord.getLsbD 2 = s.err ∧
    s.statusWord.getLsbD 3 = s.ovr ∧ s.statusWord.extractLsb' 4 4 = 0 ∧ s.statusWord.extractLsb' 8 4 = s.errCode ∧
    s.statusWord.extractLsb' 12 20 = 0 := by
  unfold State.statusWord flagBit
  simp only [BitVec.getLsbD_append]
  refine ⟨by simp, by simp, by simp, by simp, ?_, ?_, ?_⟩ <;> ext k hk <;>
    simp only [BitVec.getElem_extractLsb', BitVec.getLsbD_append] <;> interval_cases k <;> simp

theorem errInfoWord_fields (s : State) :
    s.errInfoWord.extractLsb' 0 8 = s.errSe ∧ s.errInfoWord.extractLsb' 8 8 = s.errIdx ∧
    s.errInfoWord.extractLsb' 16 16 = 0 := by
  unfold State.errInfoWord
  refine ⟨?_, ?_, ?_⟩ <;> ext k hk <;>
    simp only [BitVec.getElem_extractLsb', BitVec.getLsbD_append] <;> interval_cases k <;> simp

/-- Settles O44: ID and the unmapped offsets are specified in every state, and no write goes to them. -/
theorem idAndUnmappedOffsets : Obligations.IdAndUnmappedOffsets := by
  intro s w hr
  refine ⟨hostAccess_read_specified hr rfl (unspecifiedNow_of_control (by decide)),
    hostAccess_write hr rfl w, fun off hoff hlo hhi => ⟨?_, ?_⟩⟩
  · rw [hostAccess_read_specified hr hoff (unspecifiedNow_of_control (by omega))]
    rw [regValue_of_unmapped hlo hhi]
  · have hne : ∀ {x : BitVec 9}, x.toNat < 0x02C → off ≠ x := by
      rintro x hx rfl
      omega
    rw [hostAccess_write hr hoff, if_neg (hne (by decide)), if_neg (hne (by decide)), if_neg (hne (by decide))]

/-- Settles O46: a read answers the register where it is specified and a free value where it is not. -/
theorem resultRegisterReads : Obligations.ResultRegisterReads := by
  intro s hr
  refine ⟨fun hb => ?_, fun hb off hoff hlo hhi => ?_, fun k hk => ⟨fun hs => ?_, fun hb hlt => ?_⟩⟩
  · have hs : ∀ off, unspecifiedNow off s = false := fun _ => unspecifiedNow_of_not_busy hb
    exact ⟨hostAccess_read_specified hr rfl (hs _), hostAccess_read_specified hr rfl (hs _),
      hostAccess_read_specified hr rfl (hs _), hostAccess_read_specified hr rfl (hs _),
      hostAccess_read_specified hr rfl (hs _), hostAccess_read_specified hr rfl (hs _)⟩
  · refine hostAccess_read_unspecified hr hoff ?_
    simp [unspecifiedNow, hb, hlo, hhi]
  · have hoff := toNat_coefOffset hk
    rw [hostAccess_read_specified hr (by omega), regValue_coefOffset hk]
    rw [unspecifiedNow_coefOffset hk, Bool.and_eq_false_imp]
    intro hb
    obtain h | h := hs
    · simp [hb] at h
    · simpa using h
  · have hoff := toNat_coefOffset hk
    refine hostAccess_read_unspecified hr (by omega) ?_
    rw [unspecifiedNow_coefOffset hk, hb, Bool.true_and, decide_eq_true hlt]

/-- Settles O45: the four registers are specified in every state, and their words are made of the fields. -/
theorem controlRegisterReads : Obligations.ControlRegisterReads := by
  intro s hr
  have hread : ∀ {off : BitVec 9}, off.toNat % 4 = 0 → off.toNat < 0x014 →
      hostAccess (.read off 4) s = .next { s with resp := some (.data (regValue off s)) } :=
    fun hoff hlt => hostAccess_read_specified hr hoff (unspecifiedNow_of_control (.inl hlt))
  refine ⟨⟨s.ctrlWord, hread rfl (by decide), ctrlWord_fields s⟩,
    ⟨s.statusWord, hread rfl (by decide), statusWord_fields s⟩, hread rfl (by decide),
    ⟨s.errInfoWord, hread rfl (by decide), errInfoWord_fields s⟩⟩

/-- Settles O48: irq is computed from the flags and the enables that a write or a reset leaves. -/
theorem irqFollowsWrites : Obligations.IrqFollowsWrites := by
  refine fun w s t hr => ⟨fun h => ?_, fun h => ?_, ?_⟩
  · rw [hostAccess_write_ctrl hr] at h
    cases h
    cases hw : w.getLsbD 31 with
    | false => rw [writeCtrl_of_srst_zero hw]; rfl
    | true => rw [writeCtrl_of_srst_one hw, softReset_irq]; rfl
  · rw [hostAccess_write_status hr, writeStatus_eq] at h
    cases h
    rfl
  · simp [resetInput, assertReset, State.irq]

/-! ## What a step changes of the control registers -/

/-- Everything a step of the machine can do to CTRL, OVR and CMD: nothing, or the effect of one host write of a whole
word to CMD, CTRL or STATUS, or of a hard reset. -/
theorem step_control {s t : State} (h : step s = .next t) :
    (t.ieDone = s.ieDone ∧ t.ieErr = s.ieErr ∧ t.ovr = s.ovr ∧ t.cmd = s.cmd) ∨
    (∃ rest, s.inReset = false ∧ ((∃ w, s.env.head? = writeEvent 0x00C w ∧
        writeCmd w { s with env := rest, resp := some .done } = .next t) ∨
      (∃ w, s.env.head? = writeEvent 0x004 w ∧ t = writeCtrl w { s with env := rest, resp := some .done }) ∨
      (∃ w, s.env.head? = writeEvent 0x008 w ∧ t = writeStatus w { s with env := rest, resp := some .done }))) ∨
    (s.env.head? = some (.reset true) ∧ t.ieDone = false ∧ t.ieErr = false ∧ t.ovr = false ∧ t.cmd = 0) := by
  obtain ⟨-, rfl⟩ | ⟨a, rest, henv, h⟩ | ⟨rest, -, rfl⟩ | ⟨b, rest, henv, rfl⟩ := step_cases h
  · refine .inl ?_
    split
    · exact ⟨rfl, rfl, rfl, rfl⟩
    · have hc := runOn_keepsControl s
      exact ⟨hc.ieDone, hc.ieErr, hc.ovr, hc.cmd⟩
  · obtain ⟨-, rfl⟩ | ⟨-, off, size, -, rfl⟩ | ⟨-, off, size, w, -, -, rfl⟩ | ⟨hr, off, size, w, rfl, hok, hw⟩ :=
      hostAccess_cases h
    · exact .inl ⟨rfl, rfl, rfl, rfl⟩
    · obtain ⟨r, d, hread⟩ := hostRead_frame off size { s with env := rest }
      rw [hread]
      exact .inl ⟨rfl, rfl, rfl, rfl⟩
    · exact .inl ⟨rfl, rfl, rfl, rfl⟩
    · obtain rfl : size = 4 := by simp [accessOk] at hok; exact hok.2
      have hhead : s.env.head? = writeEvent off w := by rw [henv]; rfl
      obtain ⟨rfl, hw⟩ | ⟨rfl, hw⟩ | ⟨rfl, hw⟩ | ⟨-, -, -, rfl⟩ := hw
      · exact .inr (.inl ⟨rest, hr, .inl ⟨w, hhead, hw⟩⟩)
      · exact .inr (.inl ⟨rest, hr, .inr (.inl ⟨w, hhead, hw⟩)⟩)
      · exact .inr (.inl ⟨rest, hr, .inr (.inr ⟨w, hhead, hw⟩)⟩)
      · exact .inl ⟨rfl, rfl, rfl, rfl⟩
  · have hc := rcdStep_keepsControl { s with env := rest }
    refine .inl ?_
    unfold rcdTurn
    split
    · exact ⟨rfl, rfl, rfl, rfl⟩
    · exact ⟨hc.ieDone, hc.ieErr, hc.ovr, hc.cmd⟩
  · cases b with
    | true => exact .inr (.inr ⟨by rw [henv]; rfl, by simp [resetInput, assertReset]⟩)
    | false => exact .inl ⟨rfl, rfl, rfl, rfl⟩

/-- A write to CMD: the enables stay; the word is dropped with OVR set, or it is in CMD and OVR stays. -/
theorem writeCmd_control {w : Word} {s t : State} (h : writeCmd w s = .next t) :
    t.ieDone = s.ieDone ∧ t.ieErr = s.ieErr ∧
    (((s.busy = true ∨ s.err = true) ∧ t.ovr = true ∧ t.cmd = s.cmd) ∨
     (s.busy = false ∧ s.err = false ∧ t.ovr = s.ovr ∧ t.cmd = w)) := by
  obtain ⟨hdrop, rfl⟩ | ⟨hb, he, code, rfl⟩ | ⟨hb, he, i, -, rfl, rfl⟩ := writeCmd_cases h
  · exact ⟨rfl, rfl, .inl ⟨hdrop, rfl, rfl⟩⟩
  · exact ⟨rfl, rfl, .inr ⟨hb, he, rfl, rfl⟩⟩
  · have hc := (accepted_keepsControl i s).trans (proceed_keepsControl _)
    exact ⟨hc.ieDone, hc.ieErr, .inr ⟨hb, he, hc.ovr, hc.cmd⟩⟩

/-- A write to CTRL: the enables are the word's bits, and OVR and CMD are cleared by a soft reset only. -/
theorem writeCtrl_control (w : Word) (s : State) :
    (writeCtrl w s).ieDone = w.getLsbD 0 ∧ (writeCtrl w s).ieErr = w.getLsbD 1 ∧
    ((w.getLsbD 31 = false ∧ (writeCtrl w s).ovr = s.ovr ∧ (writeCtrl w s).cmd = s.cmd) ∨
     (w.getLsbD 31 = true ∧ (writeCtrl w s).ovr = false ∧ (writeCtrl w s).cmd = 0)) := by
  cases hw : w.getLsbD 31 with
  | false =>
    rw [writeCtrl_of_srst_zero hw]
    exact ⟨rfl, rfl, .inl ⟨rfl, rfl, rfl⟩⟩
  | true =>
    rw [writeCtrl_of_srst_one hw]
    unfold softReset
    split <;> simp

/-- Settles O55: of the writes and the reset that `step_control` lists, only that to CTRL and the reset reach the
enables. -/
theorem enablesChangeOnlyByCtrlOrReset : Obligations.EnablesChangeOnlyByCtrlOrReset := by
  intro s t h
  obtain ⟨hd, he, -⟩ | ⟨rest, -, ⟨w, -, hw⟩ | ⟨w, hhead, rfl⟩ | ⟨w, -, rfl⟩⟩ | ⟨hhead, hd, he, -⟩ := step_control h
  · exact .inl ⟨hd, he⟩
  · obtain ⟨hd, he, -⟩ := writeCmd_control hw
    exact .inl ⟨hd, he⟩
  · obtain ⟨hd, he, -⟩ := writeCtrl_control w { s with env := rest, resp := some .done }
    exact .inr (.inl ⟨w, hhead, hd, he⟩)
  · rw [writeStatus_eq]
    exact .inl ⟨rfl, rfl⟩
  · exact .inr (.inr ⟨hhead, hd, he⟩)

/-- Settles O56: a dropped write to CMD sets OVR; the W1C bit, a soft and a hard reset clear it. -/
theorem overrunFlagChanges : Obligations.OverrunFlagChanges := by
  intro s t h
  obtain ⟨-, -, ho, -⟩ | ⟨rest, -, ⟨w, hhead, hw⟩ | ⟨w, hhead, rfl⟩ | ⟨w, hhead, rfl⟩⟩ | ⟨hhead, -, -, ho, -⟩ :=
    step_control h
  · exact .inl ho
  · obtain ⟨-, -, ⟨hdrop, ho, -⟩ | ⟨-, -, ho, -⟩⟩ := writeCmd_control hw
    · exact .inr (.inl ⟨ho, hdrop, w, hhead⟩)
    · exact .inl ho
  · obtain ⟨-, -, ⟨-, ho, -⟩ | ⟨hw, ho, -⟩⟩ := writeCtrl_control w { s with env := rest, resp := some .done }
    · exact .inl ho
    · exact .inr (.inr ⟨ho, .inr (.inl ⟨w, hhead, hw⟩)⟩)
  · rw [writeStatus_eq]
    cases hw : w.getLsbD 3 with
    | false => exact .inl (Bool.and_true _)
    | true => exact .inr (.inr ⟨Bool.and_false _, .inl ⟨w, hhead, hw⟩⟩)
  · exact .inr (.inr ⟨ho, .inr (.inr hhead)⟩)

/-- A step whose event is a whole write to CMD, out of reset. -/
theorem step_of_writeCmd {s : State} {w : Word} {rest : List Event} (hr : s.inReset = false)
    (henv : s.env = .host (.write 0x00C 4 w) :: rest) :
    step s = writeCmd w { s with env := rest, resp := some .done } := by
  unfold step nextEvent
  rw [henv]
  exact hostAccess_write (s := { s with env := rest }) hr rfl w

/-- Settles O57: an accepted word is latched, legal or not, and the resets clear CMD. -/
theorem cmdHoldsLastAcceptedWord : Obligations.CmdHoldsLastAcceptedWord := by
  refine fun s t h => ⟨?_, fun w hready hhead => ?_⟩
  · obtain ⟨-, -, -, hc⟩ | ⟨rest, hr, ⟨w, hhead, hw⟩ | ⟨w, hhead, rfl⟩ | ⟨w, -, rfl⟩⟩ | ⟨hhead, -, -, -, hc⟩ :=
      step_control h
    · exact .inl hc
    · obtain ⟨-, -, ⟨-, -, hc⟩ | ⟨hb, he, -, hc⟩⟩ := writeCmd_control hw
      · exact .inl hc
      · exact .inr (.inl ⟨w, hhead, ⟨hb, he, hr⟩, hc⟩)
    · obtain ⟨-, -, ⟨-, -, hc⟩ | ⟨hw, -, hc⟩⟩ := writeCtrl_control w { s with env := rest, resp := some .done }
      · exact .inl hc
      · exact .inr (.inr ⟨hc, .inl ⟨w, hhead, hw⟩⟩)
    · rw [writeStatus_eq]
      exact .inl rfl
    · exact .inr (.inr ⟨hc, .inr hhead⟩)
  · obtain ⟨hb, he, hr⟩ := hready
    obtain ⟨rest, henv⟩ := List.head?_eq_some_iff.mp hhead
    rw [step_of_writeCmd hr henv] at h
    obtain ⟨-, -, ⟨hdrop, -⟩ | ⟨-, -, -, hc⟩⟩ := writeCmd_control h
    · simp [hb, he] at hdrop
    · exact hc

end Sys2Proof.Machine

/-! ## Two runs of one command on the same answers -/

namespace Sys2Proof.Machine

open Sys2Proof.Claims

/-- The entries below `m` are the same. -/
def SameBelow {α : Type} {n : Nat} (m : Nat) (x y : Vector α n) : Prop :=
  ∀ (k : Nat) (h : k < n), k < m → x[k] = y[k]

/-- The level registers that the level loop has written at its level `i` (R103 to R111). -/
def Work.LevelsAlike (w v : Work) : Prop :=
  w.tc = v.tc ∧ w.t1 = v.t1 ∧ w.suffixLength = v.suffixLength ∧ w.i = v.i ∧ SameBelow w.i w.levelVal v.levelVal

/-- The registers that hold the levels once all are read. -/
def Work.BlockAlike (w v : Work) : Prop :=
  w.tc = v.tc ∧ w.t1 = v.t1 ∧ SameBelow w.tc w.levelVal v.levelVal

/-- The registers of the significance scan at its position `i`, with the marks of the `n` positions read (R152). -/
def Work.ScanAlike (n : Nat) (w v : Work) : Prop :=
  w.numCoeff = v.numCoeff ∧ w.cbf = v.cbf ∧ w.i = v.i ∧ SameBelow n w.sig v.sig

/-- The significance map after the scan, and COEF from position `n` up to the last significant one (R154, R155). -/
def State.MapAlike (n : Nat) (s u : State) : Prop :=
  s.work.numCoeff = u.work.numCoeff ∧ s.work.cbf = u.work.cbf ∧
  SameBelow (max s.work.numCoeff s.maxNum) s.work.sig u.work.sig ∧
  ∀ (k : Nat) (h : k < 64), n ≤ k → k < s.work.numCoeff → s.coef[k] = u.coef[k]

/-- The registers of the level walk at its position `i` (R155, R160). -/
def State.WalkAlike (s u : State) : Prop :=
  State.MapAlike (s.work.i + 1) s u ∧ s.work.i = u.work.i ∧ s.work.gt1 = u.work.gt1 ∧
  s.work.eq1 = u.work.eq1 ∧ s.work.i < s.work.numCoeff

/-- In each phase, the registers that its steps read before they write them, and the entries of COEF the command has
written, are the same: every other register is free (R41). -/
def State.Alike (s u : State) : Prop :=
  match s.work.phase with
  | .idle => True
  | .coeffToken => s.work.code = u.work.code
  | .trailingOne => s.work.LevelsAlike u.work
  | .levelPrefix => s.work.LevelsAlike u.work ∧ s.work.levelPrefix = u.work.levelPrefix
  | .levelSuffix =>
    s.work.LevelsAlike u.work ∧ s.work.levelPrefix = u.work.levelPrefix ∧
    s.work.levelSuffix = u.work.levelSuffix ∧ s.work.j = u.work.j
  | .totalZeros => s.work.BlockAlike u.work ∧ s.work.code = u.work.code
  | .runBefore =>
    s.work.BlockAlike u.work ∧ s.work.tz = u.work.tz ∧ s.work.zerosLeft = u.work.zerosLeft ∧ s.work.i = u.work.i ∧
    SameBelow s.work.i s.work.runVal u.work.runVal ∧ s.work.code = u.work.code
  | .cavlcFinish =>
    s.work.BlockAlike u.work ∧ s.work.tz = u.work.tz ∧ SameBelow s.work.tc s.work.runVal u.work.runVal
  | .codedBlockFlag => True
  | .significance => Work.ScanAlike s.work.i s.work u.work
  | .lastFlag => Work.ScanAlike (s.work.i + 1) s.work u.work
  | .absPrefix => s.WalkAlike u ∧ s.work.absm1 = u.work.absm1 ∧ s.work.binIdx = u.work.binIdx
  | .absUnary | .absBits =>
    s.WalkAlike u ∧ s.work.absm1 = u.work.absm1 ∧ s.work.binIdx = u.work.binIdx ∧ s.work.k = u.work.k
  | .coeffSign => s.WalkAlike u ∧ s.work.absm1 = u.work.absm1
  | .cabacFinish => State.MapAlike 0 s u
  | .zeroFinish => True

/-- The ports of two runs: the same answers to come, and the same transactions made since `l` and `l'`. -/
def PortsAlike (l l' : List Transaction) (s u : State) : Prop :=
  s.bits = u.bits ∧ s.bins = u.bins ∧ ∃ log, s.portLog = log ++ l ∧ u.portLog = log ++ l'

/-- Both runs are BUSY with the same command, have made the same transactions and consumed the same. -/
def Paired (l l' : List Transaction) (s u : State) : Prop :=
  (s.busy = true ∧ s.done = false ∧ s.err = false) ∧ (u.busy = true ∧ u.done = false ∧ u.err = false) ∧
  PortsAlike l l' s u ∧ SameOperands s.work u.work ∧ s.work.count = u.work.count

/-- Both runs have ended with the same outcome. -/
structure Ended (l l' : List Transaction) (s u : State) : Prop where
  busy : s.busy = false ∧ u.busy = false
  done : s.done = u.done
  err : s.err = u.err
  ports : PortsAlike l l' s u
  resCount : s.resCount = u.resCount
  error : s.err = true → s.errCode = u.errCode ∧ s.errSe = u.errSe ∧ s.errIdx = u.errIdx
  results : s.done = true →
    s.resTc = u.resTc ∧ s.resT1 = u.resT1 ∧ s.resTz = u.resTz ∧ s.resNumCoeff = u.resNumCoeff ∧
    s.resCbf = u.resCbf ∧ SameBelow s.maxNum s.coef u.coef

/-- Two runs of one command on the same answers, each at the same step. -/
def Twins (l l' : List Transaction) (s u : State) : Prop :=
  (Paired l l' s u ∧ s.work.phase = u.work.phase ∧ s.Alike u) ∨ Ended l l' s u

section
variable {l l' : List Transaction} {s u : State}

theorem Paired.maxN (h : Paired l l' s u) : s.work.maxN = u.work.maxN := by
  obtain ⟨-, -, -, ⟨-, hmaxN, -⟩, -⟩ := h
  exact hmaxN

theorem Paired.maxNum (h : Paired l l' s u) : s.maxNum = u.maxNum := congrArg BitVec.toNat h.maxN

theorem SameBelow.mono {α : Type} {n m m' : Nat} {x y : Vector α n} (h : SameBelow m x y) (hm : m' ≤ m) :
    SameBelow m' x y := fun k hk hlt => h k hk (hlt.trans_le hm)

theorem SameBelow.getD {α : Type} {n m k : Nat} {x y : Vector α n} (h : SameBelow m x y) (hk : k < m) (d : α) :
    x.getD k d = y.getD k d := by
  by_cases hn : k < n
  · simpa [Vector.getD, hn] using h k hn hk
  · simp [Vector.getD, hn]

/-- One more entry is set to the same value. -/
theorem SameBelow.set {α : Type} {n m : Nat} {x y : Vector α n} (h : SameBelow m x y) (a : α) :
    SameBelow (m + 1) (x.setIfInBounds m a) (y.setIfInBounds m a) := by
  intro k hk hlt
  rw [Vector.getElem_setIfInBounds, Vector.getElem_setIfInBounds]
  split
  · rfl
  · exact h k hk (by omega)

theorem twins_goOn (h : Paired l l' s u) (hp : s.work.phase = u.work.phase) (ha : s.Alike u) : Twins l l' s u :=
  .inl ⟨h, hp, ha⟩

theorem twins_raise {code : ErrorCode} {se : SyntaxElement} {idx : Nat} (h : Paired l l' s u) :
    Twins l l' (raiseDecode code se idx s) (raiseDecode code se idx u) := by
  obtain ⟨⟨-, hd, -⟩, ⟨-, hd', -⟩, hports, -, hcount⟩ := h
  refine .inr ⟨by simp, by simp [hd, hd'], by simp, by simpa [PortsAlike] using hports, by simp [hcount], by simp,
    by simp [hd]⟩

/-- Both runs complete with the same results, after writing COEF. -/
theorem twins_complete {tc t1 tz n : Nat} {b : Bool} {coef coef' : Vector Word 64} (h : Paired l l' s u)
    (hc : SameBelow s.maxNum coef coef') :
    Twins l l' (complete tc t1 tz n b { s with coef := coef }) (complete tc t1 tz n b { u with coef := coef' }) := by
  obtain ⟨⟨-, -, he⟩, ⟨-, -, he'⟩, hports, -, hcount⟩ := h
  exact .inr ⟨⟨rfl, rfl⟩, rfl, he.trans he'.symm, hports, congrArg (BitVec.ofNat 32) hcount, by simp [he],
    fun _ => ⟨rfl, rfl, rfl, rfl, rfl, hc⟩⟩

/-- The port transactions of two runs stay the same when each records the same one. -/
theorem PortsAlike.record (h : PortsAlike l l' s u) (x : Transaction) :
    ∃ log, x :: s.portLog = log ++ l ∧ x :: u.portLog = log ++ l' := by
  obtain ⟨-, -, log, hs, hu⟩ := h
  exact ⟨x :: log, by rw [hs]; rfl, by rw [hu]; rfl⟩

theorem bitRead_twins {se : SyntaxElement} {idx : Nat} {k : Bool → State → State} (h : Paired l l' s u)
    (hp : s.work.phase = u.work.phase) (ha : s.Alike u)
    (hk : ∀ b rest log log',
      Paired l l'
        { s with bits := rest, portLog := log, work := { s.work with count := s.work.count + 1 } }
        { u with bits := rest, portLog := log', work := { u.work with count := u.work.count + 1 } } →
      Twins l l'
        (k b { s with bits := rest, portLog := log, work := { s.work with count := s.work.count + 1 } })
        (k b { u with bits := rest, portLog := log', work := { u.work with count := u.work.count + 1 } })) :
    Twins l l' (bitRead se idx k s) (bitRead se idx k u) := by
  obtain ⟨hs, hu, ⟨hbits, hbins, hlog⟩, ho, hcount⟩ := id h
  unfold bitRead
  rw [← hbits]
  split
  · exact twins_goOn h hp ha
  · exact twins_raise ⟨hs, hu, ⟨rfl, hbins, h.2.2.1.record _⟩, ho, hcount⟩
  · exact hk _ _ _ _ ⟨hs, hu, ⟨rfl, hbins, h.2.2.1.record _⟩, ho, congrArg (· + 1) hcount⟩

theorem binRead_twins {se : SyntaxElement} {binIdx idx : Nat} {bypass : Bool} {k : Bool → State → State}
    (h : Paired l l' s u) (hp : s.work.phase = u.work.phase) (ha : s.Alike u)
    (hcounters : se = .coeffAbsLevelMinus1 → s.work.gt1 = u.work.gt1 ∧ s.work.eq1 = u.work.eq1)
    (hk : ∀ b rest log log',
      Paired l l'
        { s with bins := rest, portLog := log, work := { s.work with count := s.work.count + 1 } }
        { u with bins := rest, portLog := log', work := { u.work with count := u.work.count + 1 } } →
      Twins l l'
        (k b { s with bins := rest, portLog := log, work := { s.work with count := s.work.count + 1 } })
        (k b { u with bins := rest, portLog := log', work := { u.work with count := u.work.count + 1 } })) :
    Twins l l' (binRead se binIdx bypass idx k s) (binRead se binIdx bypass idx k u) := by
  obtain ⟨hs, hu, ⟨hbits, hbins, hlog⟩, ho, hcount⟩ := id h
  have hreq : binRequest se binIdx bypass idx s = binRequest se binIdx bypass idx u := by
    obtain ⟨-, hmaxN, -, hcat⟩ := ho
    unfold binRequest
    rw [hmaxN, hcat]
    split
    · obtain ⟨hgt1, heq1⟩ := hcounters ‹_›
      rw [hgt1, heq1]
    · rfl
  unfold binRead
  rw [← hbins, ← hreq]
  split
  · exact twins_goOn h hp ha
  · exact twins_raise ⟨hs, hu, ⟨hbits, rfl, h.2.2.1.record _⟩, ho, hcount⟩
  · exact hk _ _ _ _ ⟨hs, hu, ⟨hbits, rfl, h.2.2.1.record _⟩, ho, congrArg (· + 1) hcount⟩

end

end Sys2Proof.Machine

namespace Sys2Proof.Machine

section
variable {l l' : List Transaction} {s u : State}

/-! ### CAVLC_BLOCK -/

theorem closeRuns_runVal_alike (htc : s.work.tc = u.work.tc) (hi : s.work.i = u.work.i)
    (hzl : s.work.zerosLeft = u.work.zerosLeft) (hrun : SameBelow s.work.i s.work.runVal u.work.runVal) :
    SameBelow s.work.tc (closeRuns s).work.runVal (closeRuns u).work.runVal := by
  intro k hk hlt
  simp only [closeRuns, Vector.getElem_ofFn, ← htc, ← hi, ← hzl]
  split_ifs
  · rfl
  · rfl
  · exact hrun k hk (by omega)

/-- Closing the runs writes the runs and the phase only. -/
theorem closeRuns_eq (s : State) : ∃ runs, (closeRuns s).work.runVal = runs ∧
    closeRuns s = { s with work := { s.work with phase := .cavlcFinish, runVal := runs } } :=
  ⟨_, rfl, rfl⟩

theorem nextRun_twins (h : Paired l l' s u) (hblock : s.work.BlockAlike u.work) (htz : s.work.tz = u.work.tz)
    (hzl : s.work.zerosLeft = u.work.zerosLeft) (hi : s.work.i = u.work.i)
    (hrun : SameBelow s.work.i s.work.runVal u.work.runVal) : Twins l l' (nextRun s) (nextRun u) := by
  have htc := hblock.1
  have hruns := closeRuns_runVal_alike htc hi hzl hrun
  obtain ⟨runs, hs, hseq⟩ := closeRuns_eq s
  obtain ⟨runs', hu, hueq⟩ := closeRuns_eq u
  rw [hs, hu] at hruns
  unfold nextRun
  rw [← htc, ← hi, ← hzl]
  split
  · exact twins_goOn h rfl ⟨hblock, htz, hzl, hi, hrun, rfl⟩
  · rw [hseq, hueq]
    exact twins_goOn h rfl ⟨hblock, htz, hruns⟩

theorem startRuns_twins (h : Paired l l' s u) (hblock : s.work.BlockAlike u.work) (htz : s.work.tz = u.work.tz) :
    Twins l l' (startRuns s) (startRuns u) :=
  nextRun_twins h hblock htz htz rfl fun _ _ hlt => absurd hlt (Nat.not_lt_zero _)

theorem startTotalZeros_twins (h : Paired l l' s u) (hblock : s.work.BlockAlike u.work) :
    Twins l l' (startTotalZeros s) (startTotalZeros u) := by
  unfold startTotalZeros
  rw [← hblock.1, ← h.maxNum]
  split
  · exact twins_goOn h rfl ⟨hblock, rfl⟩
  · exact startRuns_twins h hblock rfl

theorem nextLevel_twins (h : Paired l l' s u) (hl : s.work.LevelsAlike u.work) :
    Twins l l' (nextLevel s) (nextLevel u) := by
  obtain ⟨htc, ht1, -, hi, hval⟩ := id hl
  unfold nextLevel
  rw [← htc, ← ht1, ← hi]
  split_ifs with hlt
  · exact twins_goOn h rfl hl
  · exact twins_goOn h rfl ⟨hl, rfl⟩
  · exact startTotalZeros_twins h ⟨htc, ht1, hval.mono (Nat.le_of_not_lt hlt)⟩

theorem coeffTokenFound_twins (h : Paired l l' s u) (v : Nat × Nat) :
    Twins l l' (coeffTokenFound v s) (coeffTokenFound v u) := by
  unfold coeffTokenFound
  dsimp only
  rw [show State.maxNum { u with work := { u.work with tc := v.1, t1 := v.2 } } =
    State.maxNum { s with work := { s.work with tc := v.1, t1 := v.2 } } from h.maxNum.symm]
  split_ifs with _ hzero
  · exact twins_raise h
  · refine twins_goOn h rfl ⟨⟨rfl, rfl, ?_⟩, rfl, ?_⟩ <;>
      exact fun k hk hlt => absurd hlt (by simp [hzero])
  · exact nextLevel_twins h ⟨rfl, rfl, rfl, rfl, fun k hk hlt => absurd hlt (Nat.not_lt_zero _)⟩

/-- One bit of a codeword, read by both runs with the same part of it already read. -/
theorem vlcRead_twins {α : Type} {T : VlcTable α} {se : SyntaxElement} {idx : Nat} {found : α → State → State}
    (h : Paired l l' s u) (hp : s.work.phase = u.work.phase) (ha : s.Alike u) (hcode : s.work.code = u.work.code)
    (hfound : ∀ v rest log log',
      Paired l l'
        { s with bits := rest, portLog := log, work := { s.work with count := s.work.count + 1, code := [] } }
        { u with bits := rest, portLog := log', work := { u.work with count := u.work.count + 1, code := [] } } →
      Twins l l'
        (found v { s with
          bits := rest, portLog := log, work := { s.work with count := s.work.count + 1, code := [] } })
        (found v { u with
          bits := rest, portLog := log', work := { u.work with count := u.work.count + 1, code := [] } }))
    (hgoOn : ∀ b rest log log',
      State.Alike
        { s with bits := rest, portLog := log, work := { s.work with
          count := s.work.count + 1, code := s.work.code ++ [b] } }
        { u with bits := rest, portLog := log', work := { u.work with
          count := u.work.count + 1, code := u.work.code ++ [b] } }) :
    Twins l l' (vlcRead T se idx found s) (vlcRead T se idx found u) := by
  refine bitRead_twins h hp ha fun b rest log log' h' => ?_
  unfold vlcStep
  dsimp only
  rw [← hcode]
  split
  · exact hfound _ rest log log' h'
  · refine twins_goOn h' hp ?_
    have := hgoOn b rest log log'
    rwa [← hcode] at this
  · exact twins_raise h'

theorem coeffTokenStep_twins (h : Paired l l' s u) (hp : s.work.phase = u.work.phase)
    (hs : s.work.phase = .coeffToken) (ha : s.Alike u) : Twins l l' (coeffTokenStep s) (coeffTokenStep u) := by
  obtain ⟨-, -, -, ⟨-, -, hnC, -⟩, -⟩ := id h
  have hcode : s.work.code = u.work.code := by simpa only [State.Alike, hs] using ha
  unfold coeffTokenStep
  rw [← hnC]
  refine vlcRead_twins h hp ha hcode (fun v _ _ _ h' => coeffTokenFound_twins h' v) fun b _ _ _ => ?_
  simp only [State.Alike, hs, hcode]

theorem trailingOneStep_twins (h : Paired l l' s u) (hp : s.work.phase = u.work.phase)
    (hs : s.work.phase = .trailingOne) (ha : s.Alike u) : Twins l l' (trailingOneStep s) (trailingOneStep u) := by
  have hl : s.work.LevelsAlike u.work := by simpa only [State.Alike, hs] using ha
  obtain ⟨htc, ht1, hsl, hi, hval⟩ := hl
  unfold trailingOneStep
  rw [← hi]
  refine bitRead_twins h hp ha fun b rest log log' h' => nextLevel_twins h' ?_
  dsimp only
  rw [← hi]
  exact ⟨htc, ht1, hsl, rfl, hval.set _⟩

theorem finishLevel_twins (h : Paired l l' s u) (hl : s.work.LevelsAlike u.work)
    (hpre : s.work.levelPrefix = u.work.levelPrefix) (hsuf : s.work.levelSuffix = u.work.levelSuffix) :
    Twins l l' (finishLevel s) (finishLevel u) := by
  obtain ⟨htc, ht1, hsl, hi, hval⟩ := hl
  refine nextLevel_twins h ?_
  dsimp only
  rw [← htc, ← ht1, ← hi, ← hsl, ← hpre, ← hsuf]
  exact ⟨rfl, rfl, rfl, rfl, hval.set _⟩

theorem startLevelSuffix_twins (h : Paired l l' s u) (hl : s.work.LevelsAlike u.work)
    (hpre : s.work.levelPrefix = u.work.levelPrefix) : Twins l l' (startLevelSuffix s) (startLevelSuffix u) := by
  have hsl := hl.2.2.1
  unfold startLevelSuffix
  rw [← hpre, ← hsl]
  dsimp only
  split
  · exact twins_goOn h rfl ⟨hl, hpre, rfl, rfl⟩
  · exact finishLevel_twins h hl hpre rfl

theorem levelPrefixStep_twins (h : Paired l l' s u) (hp : s.work.phase = u.work.phase)
    (hs : s.work.phase = .levelPrefix) (ha : s.Alike u) : Twins l l' (levelPrefixStep s) (levelPrefixStep u) := by
  obtain ⟨hl, hpre⟩ : s.work.LevelsAlike u.work ∧ s.work.levelPrefix = u.work.levelPrefix := by
    simpa only [State.Alike, hs] using ha
  obtain ⟨htc, ht1, hsl, hi, hval⟩ := hl
  unfold levelPrefixStep
  rw [← hi]
  refine bitRead_twins h hp ha fun b rest log log' h' => ?_
  dsimp only at h' ⊢
  rw [← hpre, ← hi] at h' ⊢
  split_ifs
  · exact startLevelSuffix_twins h' ⟨htc, ht1, hsl, rfl, hval⟩ rfl
  · exact twins_raise h'
  · refine twins_goOn h' hp ?_
    simp only [State.Alike, hs]
    exact ⟨⟨htc, ht1, hsl, rfl, hval⟩, trivial⟩

theorem levelSuffixStep_twins (h : Paired l l' s u) (hp : s.work.phase = u.work.phase)
    (hs : s.work.phase = .levelSuffix) (ha : s.Alike u) : Twins l l' (levelSuffixStep s) (levelSuffixStep u) := by
  obtain ⟨hl, hpre, hsuf, hj⟩ : s.work.LevelsAlike u.work ∧ s.work.levelPrefix = u.work.levelPrefix ∧
    s.work.levelSuffix = u.work.levelSuffix ∧ s.work.j = u.work.j := by simpa only [State.Alike, hs] using ha
  have hi := hl.2.2.2.1
  unfold levelSuffixStep
  rw [← hi]
  refine bitRead_twins h hp ha fun b rest log log' h' => ?_
  dsimp only
  rw [← hsuf, ← hj]
  split
  · exact finishLevel_twins h' hl hpre rfl
  · refine twins_goOn h' hp ?_
    simp only [State.Alike, hs]
    exact ⟨hl, hpre, trivial, trivial⟩

theorem totalZerosFound_twins (h : Paired l l' s u) (hblock : s.work.BlockAlike u.work) (v : Nat) :
    Twins l l' (totalZerosFound v s) (totalZerosFound v u) := by
  have hbudget : u.maxNum - u.work.tc = s.maxNum - s.work.tc := by rw [hblock.1, h.maxNum]
  change Twins l l' (if s.maxNum - s.work.tc < v then _ else _) (if u.maxNum - u.work.tc < v then _ else _)
  rw [hbudget]
  split_ifs
  · exact twins_raise h
  · exact startRuns_twins h hblock rfl

theorem totalZerosStep_twins (h : Paired l l' s u) (hp : s.work.phase = u.work.phase)
    (hs : s.work.phase = .totalZeros) (ha : s.Alike u) : Twins l l' (totalZerosStep s) (totalZerosStep u) := by
  obtain ⟨hblock, hcode⟩ : s.work.BlockAlike u.work ∧ s.work.code = u.work.code := by
    simpa only [State.Alike, hs] using ha
  unfold totalZerosStep
  rw [← hblock.1, ← h.maxNum]
  refine vlcRead_twins h hp ha hcode (fun v _ _ _ h' => totalZerosFound_twins h' hblock v) fun b _ _ _ => ?_
  simp only [State.Alike, hs, hcode]
  exact ⟨hblock, trivial⟩

theorem runBeforeStep_twins (h : Paired l l' s u) (hp : s.work.phase = u.work.phase)
    (hs : s.work.phase = .runBefore) (ha : s.Alike u) : Twins l l' (runBeforeStep s) (runBeforeStep u) := by
  obtain ⟨hblock, htz, hzl, hi, hrun, hcode⟩ : s.work.BlockAlike u.work ∧ s.work.tz = u.work.tz ∧
    s.work.zerosLeft = u.work.zerosLeft ∧ s.work.i = u.work.i ∧ SameBelow s.work.i s.work.runVal u.work.runVal ∧
    s.work.code = u.work.code := by simpa only [State.Alike, hs] using ha
  unfold runBeforeStep
  rw [← hzl, ← hi]
  refine vlcRead_twins h hp ha hcode (fun v rest log log' h' => ?_) fun b _ _ _ => ?_
  · unfold runBeforeFound
    dsimp only
    rw [← hzl, ← hi]
    split
    · exact twins_raise h'
    · exact nextRun_twins h' hblock htz rfl rfl (hrun.set v)
  · simp only [State.Alike, hs, hcode]
    exact ⟨hblock, htz, hzl, hi, hrun, trivial⟩

/-- The scatter writes the same entries of COEF from the same levels and runs (R116). -/
theorem scatterLoop_alike {x x' : Vector Int 16} {y y' : Vector Nat 16} {m : Nat} (n : Nat) (p : Int)
    {coef coef' : Vector Word 64} (hx : SameBelow n x x') (hy : SameBelow n y y') (hc : SameBelow m coef coef') :
    SameBelow m (scatterLoop x y n (p, coef)).2 (scatterLoop x' y' n (p, coef')).2 := by
  induction n generalizing p coef coef' with
  | zero => exact hc
  | succ n ih =>
    simp only [scatterLoop]
    rw [← hx.getD n.lt_succ_self, ← hy.getD n.lt_succ_self]
    refine ih _ (hx.mono n.le_succ) (hy.mono n.le_succ) fun k hk hlt => ?_
    rw [Vector.getElem_setIfInBounds, Vector.getElem_setIfInBounds, hc k hk hlt]

theorem cavlcFinishStep_twins (h : Paired l l' s u) (hs : s.work.phase = .cavlcFinish) (ha : s.Alike u) :
    Twins l l' (cavlcFinishStep s) (cavlcFinishStep u) := by
  obtain ⟨⟨htc, ht1, hval⟩, htz, hrun⟩ : s.work.BlockAlike u.work ∧ s.work.tz = u.work.tz ∧
    SameBelow s.work.tc s.work.runVal u.work.runVal := by simpa only [State.Alike, hs] using ha
  have hzero : SameBelow s.maxNum (zeroRange 0 s.maxNum s.coef) (zeroRange 0 s.maxNum u.coef) := by
    intro k hk hlt
    rw [zeroRange_get, zeroRange_get, if_pos ⟨Nat.zero_le k, hlt⟩, if_pos ⟨Nat.zero_le k, hlt⟩]
  have hcoef : SameBelow s.maxNum (scatter s).coef (scatter u).coef := by
    unfold scatter
    rw [← htc, ← h.maxNum]
    exact scatterLoop_alike _ _ hval hrun hzero
  unfold cavlcFinishStep
  rw [← htc, ← ht1, ← htz]
  exact twins_complete (s := scatter s) (u := scatter u) h hcoef

end

end Sys2Proof.Machine

namespace Sys2Proof.Machine

open Sys2Proof.Claims

section
variable {l l' : List Transaction} {s u : State}

/-! ### CABAC_BLOCK and ZERO_BLOCK -/

theorem levelWalk_twins (n : Nat) (h : Paired l l' s u) (hmap : State.MapAlike n s u)
    (hgt1 : s.work.gt1 = u.work.gt1) (heq1 : s.work.eq1 = u.work.eq1) (hn : n ≤ s.work.numCoeff) :
    Twins l l' (levelWalk n s) (levelWalk n u) := by
  induction n generalizing s u with
  | zero => exact twins_goOn h rfl hmap
  | succ n ih =>
    obtain ⟨hnum, hcbf, hsig, hcoef⟩ := hmap
    have hmark := hsig.getD (k := n) (by omega) false
    unfold levelWalk
    rw [← hmark]
    split
    · exact twins_goOn h rfl ⟨⟨⟨hnum, hcbf, hsig, hcoef⟩, rfl, hgt1, heq1, hn⟩, rfl, rfl⟩
    · refine ih h ⟨hnum, hcbf, hsig, fun k hk hle hlt => ?_⟩ hgt1 heq1 (Nat.le_of_succ_le hn)
      dsimp only
      rw [Vector.getElem_setIfInBounds, Vector.getElem_setIfInBounds]
      split
      · rfl
      · exact hcoef k hk (by omega) hlt

/-- The map after the end of the scan at position `i` (R154). -/
def scannedSig (s : State) : Vector Bool 64 :=
  Vector.ofFn fun n =>
    if n.val + 1 = s.work.numCoeff then true
    else if s.work.numCoeff ≤ n.val ∧ n.val < s.maxNum then false
    else s.work.sig[n]

theorem endScan_eq (s : State) : endScan s = levelWalk s.work.numCoeff
    { s with work := { s.work with sig := scannedSig s, gt1 := 0, eq1 := 0 } } := rfl

theorem scannedSig_alike (hnum : s.work.numCoeff = u.work.numCoeff) (hmax : s.maxNum = u.maxNum)
    (hsig : SameBelow s.work.i s.work.sig u.work.sig) (hend : ¬ s.work.i + 1 < s.work.numCoeff) :
    SameBelow (max s.work.numCoeff s.maxNum) (scannedSig s) (scannedSig u) := by
  intro k hk hlt
  simp only [scannedSig, Vector.getElem_ofFn, ← hnum, ← hmax]
  split_ifs
  · rfl
  · rfl
  · exact hsig k hk (by omega)

theorem nextScan_twins (h : Paired l l' s u) (hscan : Work.ScanAlike s.work.i s.work u.work) :
    Twins l l' (nextScan s) (nextScan u) := by
  obtain ⟨hnum, hcbf, hi, hsig⟩ := hscan
  unfold nextScan
  rw [← hi, ← hnum]
  split
  next => exact twins_goOn h rfl ⟨hnum, hcbf, hi, hsig⟩
  next hend =>
    have hmap := scannedSig_alike hnum h.maxNum hsig hend
    rw [endScan_eq, endScan_eq, ← hnum]
    generalize scannedSig s = x at hmap
    generalize scannedSig u = y at hmap
    exact levelWalk_twins _ h ⟨hnum, hcbf, hmap, fun k _ hle hlt => absurd hlt (Nat.not_lt.mpr hle)⟩ rfl rfl le_rfl

theorem startScan_twins (h : Paired l l' s u) (hcbf : s.work.cbf = u.work.cbf) :
    Twins l l' (startScan s) (startScan u) :=
  nextScan_twins h ⟨h.maxNum, hcbf, rfl, fun _ _ hlt => absurd hlt (Nat.not_lt_zero _)⟩

theorem codedBlockFlagStep_twins (h : Paired l l' s u) (hp : s.work.phase = u.work.phase) (ha : s.Alike u) :
    Twins l l' (codedBlockFlagStep s) (codedBlockFlagStep u) := by
  refine binRead_twins h hp ha nofun fun b rest log log' h' => ?_
  dsimp only
  split
  · exact startScan_twins h' rfl
  · exact twins_goOn h' rfl ⟨rfl, rfl, fun _ _ _ => rfl, fun k _ _ hlt => absurd hlt (Nat.not_lt_zero k)⟩

theorem significanceStep_twins (h : Paired l l' s u) (hp : s.work.phase = u.work.phase)
    (hs : s.work.phase = .significance) (ha : s.Alike u) :
    Twins l l' (significanceStep s) (significanceStep u) := by
  obtain ⟨hnum, hcbf, hi, hsig⟩ : Work.ScanAlike s.work.i s.work u.work := by simpa only [State.Alike, hs] using ha
  unfold significanceStep
  rw [← hi]
  refine binRead_twins h hp ha nofun fun b rest log log' h' => ?_
  dsimp only at h' ⊢
  rw [← hi] at h' ⊢
  split
  · exact twins_goOn h' rfl ⟨hnum, hcbf, rfl, hsig.set b⟩
  · exact nextScan_twins h' ⟨hnum, hcbf, rfl, hsig.set b⟩

theorem lastFlagStep_twins (h : Paired l l' s u) (hp : s.work.phase = u.work.phase)
    (hs : s.work.phase = .lastFlag) (ha : s.Alike u) : Twins l l' (lastFlagStep s) (lastFlagStep u) := by
  obtain ⟨hnum, hcbf, hi, hsig⟩ : Work.ScanAlike (s.work.i + 1) s.work u.work := by
    simpa only [State.Alike, hs] using ha
  unfold lastFlagStep
  rw [← hi]
  refine binRead_twins h hp ha nofun fun b rest log log' h' => nextScan_twins h' ⟨?_, hcbf, ?_, hsig⟩
  · dsimp only
    rw [← hi, ← hnum]
  · dsimp only
    rw [← hi]

theorem absPrefixStep_twins (h : Paired l l' s u) (hp : s.work.phase = u.work.phase)
    (hs : s.work.phase = .absPrefix) (ha : s.Alike u) : Twins l l' (absPrefixStep s) (absPrefixStep u) := by
  obtain ⟨⟨hmap, hi, hgt1, heq1, hlt⟩, habs, hbin⟩ : s.WalkAlike u ∧ s.work.absm1 = u.work.absm1 ∧
    s.work.binIdx = u.work.binIdx := by simpa only [State.Alike, hs] using ha
  unfold absPrefixStep
  rw [← hi, ← hbin]
  refine binRead_twins h hp ha (fun _ => ⟨hgt1, heq1⟩) fun b rest log log' h' => ?_
  dsimp only at h' ⊢
  rw [← hbin, ← habs] at h' ⊢
  split_ifs
  · refine twins_goOn h' hp ?_
    simp only [State.Alike, hs]
    exact ⟨⟨hmap, hi, hgt1, heq1, hlt⟩, trivial, trivial⟩
  · exact twins_goOn h' rfl ⟨⟨hmap, hi, hgt1, heq1, hlt⟩, rfl, rfl, rfl⟩
  · exact twins_goOn h' rfl ⟨⟨hmap, hi, hgt1, heq1, hlt⟩, rfl⟩

theorem absUnaryStep_twins (h : Paired l l' s u) (hp : s.work.phase = u.work.phase)
    (hs : s.work.phase = .absUnary) (ha : s.Alike u) : Twins l l' (absUnaryStep s) (absUnaryStep u) := by
  obtain ⟨⟨hmap, hi, hgt1, heq1, hlt⟩, habs, hbin, hk⟩ : s.WalkAlike u ∧ s.work.absm1 = u.work.absm1 ∧
    s.work.binIdx = u.work.binIdx ∧ s.work.k = u.work.k := by simpa only [State.Alike, hs] using ha
  unfold absUnaryStep
  rw [← hi, ← hbin]
  refine binRead_twins h hp ha (fun _ => ⟨hgt1, heq1⟩) fun b rest log log' h' => ?_
  dsimp only at h' ⊢
  rw [← hbin, ← habs, ← hk, ← hi] at h' ⊢
  split_ifs
  · exact twins_raise h'
  · refine twins_goOn h' hp ?_
    simp only [State.Alike, hs]
    exact ⟨⟨hmap, rfl, hgt1, heq1, hlt⟩, trivial, trivial, trivial⟩
  · exact twins_goOn h' rfl ⟨⟨hmap, rfl, hgt1, heq1, hlt⟩, rfl⟩
  · exact twins_goOn h' rfl ⟨⟨hmap, rfl, hgt1, heq1, hlt⟩, rfl, rfl, rfl⟩

theorem absBitsStep_twins (h : Paired l l' s u) (hp : s.work.phase = u.work.phase)
    (hs : s.work.phase = .absBits) (ha : s.Alike u) : Twins l l' (absBitsStep s) (absBitsStep u) := by
  obtain ⟨⟨hmap, hi, hgt1, heq1, hlt⟩, habs, hbin, hk⟩ : s.WalkAlike u ∧ s.work.absm1 = u.work.absm1 ∧
    s.work.binIdx = u.work.binIdx ∧ s.work.k = u.work.k := by simpa only [State.Alike, hs] using ha
  unfold absBitsStep
  rw [← hi, ← hbin]
  refine binRead_twins h hp ha (fun _ => ⟨hgt1, heq1⟩) fun b rest log log' h' => ?_
  dsimp only at h' ⊢
  rw [← hbin, ← habs, ← hk] at h' ⊢
  split_ifs
  · exact twins_goOn h' rfl ⟨⟨hmap, hi, hgt1, heq1, hlt⟩, rfl⟩
  · refine twins_goOn h' hp ?_
    simp only [State.Alike, hs]
    exact ⟨⟨hmap, hi, hgt1, heq1, hlt⟩, trivial, trivial, trivial⟩

theorem coeffSignStep_twins (h : Paired l l' s u) (hp : s.work.phase = u.work.phase)
    (hs : s.work.phase = .coeffSign) (ha : s.Alike u) : Twins l l' (coeffSignStep s) (coeffSignStep u) := by
  obtain ⟨⟨⟨hnum, hcbf, hsig, hcoef⟩, hi, hgt1, heq1, hlt⟩, habs⟩ : s.WalkAlike u ∧ s.work.absm1 = u.work.absm1 := by
    simpa only [State.Alike, hs] using ha
  unfold coeffSignStep
  rw [← hi]
  refine binRead_twins h hp ha nofun fun b rest log log' h' => ?_
  dsimp only at h' ⊢
  rw [← hi, ← habs, ← hgt1, ← heq1] at h' ⊢
  refine levelWalk_twins _ h' ⟨hnum, hcbf, hsig, fun k hk hle hlt' => ?_⟩ rfl rfl ?_
  · dsimp only
    rw [Vector.getElem_setIfInBounds, Vector.getElem_setIfInBounds]
    split
    · rfl
    · exact hcoef k hk (by omega) hlt'
  · exact hlt.le

theorem sigCount_congr {x y : Vector Bool 64} {m : Nat} (h : SameBelow m x y) : sigCount x m = sigCount y m := by
  unfold sigCount
  congr 1
  refine List.ext_getElem (by simp) fun k hk _ => ?_
  simp only [List.length_take, Vector.length_toList] at hk
  simpa using h k (by omega) (by omega)

theorem cabacFinishStep_twins (h : Paired l l' s u) (hs : s.work.phase = .cabacFinish) (ha : s.Alike u) :
    Twins l l' (cabacFinishStep s) (cabacFinishStep u) := by
  obtain ⟨hnum, hcbf, hsig, hcoef⟩ : State.MapAlike 0 s u := by simpa only [State.Alike, hs] using ha
  have hcount := sigCount_congr (hsig.mono (le_max_right _ _))
  unfold cabacFinishStep
  dsimp only
  rw [← h.maxNum, ← hcount, ← hnum, ← hcbf]
  refine twins_complete h fun k hk hlt => ?_
  rw [zeroRange_get, zeroRange_get]
  split
  · rfl
  next hnot => exact hcoef k hk (Nat.zero_le k) (by omega)

theorem zeroFinishStep_twins (h : Paired l l' s u) : Twins l l' (zeroFinishStep s) (zeroFinishStep u) := by
  unfold zeroFinishStep
  rw [← h.maxNum]
  refine twins_complete h fun k hk hlt => ?_
  rw [zeroRange_get, zeroRange_get, if_pos ⟨Nat.zero_le k, hlt⟩, if_pos ⟨Nat.zero_le k, hlt⟩]

/-- One internal step takes twin states to twin states. -/
theorem rcdStep_twins (h : Twins l l' s u) : Twins l l' (rcdStep s) (rcdStep u) := by
  obtain ⟨hpair, hp, ha⟩ | hend := h
  · obtain ⟨⟨hb, -⟩, ⟨hb', -⟩, -⟩ := id hpair
    unfold rcdStep
    rw [if_pos hb, if_pos hb', ← hp]
    split <;> rename_i hs
    · exact twins_goOn hpair hp ha
    · exact coeffTokenStep_twins hpair hp hs ha
    · exact trailingOneStep_twins hpair hp hs ha
    · exact levelPrefixStep_twins hpair hp hs ha
    · exact levelSuffixStep_twins hpair hp hs ha
    · exact totalZerosStep_twins hpair hp hs ha
    · exact runBeforeStep_twins hpair hp hs ha
    · exact cavlcFinishStep_twins hpair hs ha
    · exact codedBlockFlagStep_twins hpair hp ha
    · exact significanceStep_twins hpair hp hs ha
    · exact lastFlagStep_twins hpair hp hs ha
    · exact absPrefixStep_twins hpair hp hs ha
    · exact absUnaryStep_twins hpair hp hs ha
    · exact absBitsStep_twins hpair hp hs ha
    · exact coeffSignStep_twins hpair hp hs ha
    · exact cabacFinishStep_twins hpair hs ha
    · exact zeroFinishStep_twins hpair
  · rw [rcdStep_of_not_busy hend.busy.1, rcdStep_of_not_busy hend.busy.2]
    exact .inr hend

theorem rcdSteps_twins (n : Nat) (h : Twins l l' s u) : Twins l l' (rcdSteps n s) (rcdSteps n u) := by
  induction n generalizing s u with
  | zero => exact h
  | succ n ih => exact ih (rcdStep_twins h)

/-- The start of a command's own rule begins twin runs. -/
theorem startOf_twins (i : Instr) (h : Paired l l' s u) : Twins l l' (startOf i s) (startOf i u) := by
  cases i with
  | cavlcBlock maxN nC => exact twins_goOn h rfl rfl
  | cabacBlock maxN cat =>
    unfold startOf startCabac
    dsimp only
    rw [← h.maxNum]
    split
    · exact startScan_twins h rfl
    · exact twins_goOn h rfl trivial
  | zeroBlock maxN => exact twins_goOn h rfl trivial

theorem Twins.ports (h : Twins l l' s u) : PortsAlike l l' s u := by
  obtain ⟨⟨-, -, hports, -⟩, -⟩ | hend := h
  · exact hports
  · exact hend.ports

/-- Twin states with no event to come run on alone for the same number of steps. -/
theorem proceed_twins (h : Twins l l' s u) (hs : s.env = []) (hu : u.env = []) :
    Twins l l' (proceed s) (proceed u) := by
  obtain ⟨hbits, hbins, -⟩ := h.ports
  simp only [proceed, hs, hu, List.isEmpty_nil, if_true, runOn, ← hbits, ← hbins]
  exact rcdSteps_twins _ h

/-- A command accepted in two Ready states with the same answers to come runs the same in both (R41, R57). -/
theorem proceed_accepted_twins (i : Instr) (hs : s.Ready) (hu : u.Ready) (henv : s.env = []) (henv' : u.env = [])
    (hbits : s.bits = u.bits) (hbins : s.bins = u.bins) :
    Twins s.portLog u.portLog (proceed (accepted i s)) (proceed (accepted i u)) := by
  obtain ⟨-, he, -⟩ := hs
  obtain ⟨-, he', -⟩ := hu
  have hpair : Paired s.portLog u.portLog (latch (encode i) { s with cmd := encode i, done := false })
      (latch (encode i) { u with cmd := encode i, done := false }) :=
    ⟨⟨rfl, rfl, he⟩, ⟨rfl, rfl, he'⟩, ⟨hbits, hbins, [], rfl, rfl⟩, ⟨rfl, rfl, rfl, rfl⟩, rfl⟩
  exact proceed_twins (startOf_twins i hpair) ((accepted_keepsControl i s).env.trans henv)
    ((accepted_keepsControl i u).env.trans henv')

end

/-- Settles O36: the two runs are twins at each step, from the acceptance of the command on; a refused command has the
same outcome in both. -/
theorem resultDependsOnlyOnWordAndAnswers : Obligations.ResultDependsOnlyOnWordAndAnswers := by
  intro i s1 s2 t1 t2 hs1 hs2 henv1 henv2 hbits hbins h1 h2
  obtain ⟨hb1, he1, -⟩ := id hs1
  obtain ⟨hb2, he2, -⟩ := id hs2
  obtain ⟨hdrop, -⟩ | ⟨-, -, hwf, rfl⟩ | ⟨-, -, hwf, rfl⟩ := exec_cases h1
  · simp [hb1, he1] at hdrop
  · obtain ⟨hdrop, -⟩ | ⟨-, -, -, rfl⟩ | ⟨-, -, hwf', -⟩ := exec_cases h2
    · simp [hb2, he2] at hdrop
    · exact ⟨rfl, rfl, rfl, hbits, hbins, ⟨[], rfl, rfl⟩, fun _ => rfl, fun _ => ⟨rfl, rfl, rfl⟩, nofun⟩
    · simp [hwf] at hwf'
  · obtain ⟨hdrop, -⟩ | ⟨-, -, hwf', -⟩ | ⟨-, -, -, rfl⟩ := exec_cases h2
    · simp [hb2, he2] at hdrop
    · simp [hwf] at hwf'
    · have hmax : (proceed (accepted i s1)).maxNum = (maxNField (encode i)).toNat := congrArg BitVec.toNat
        ((accepted_keepsControl i s1).trans (proceed_keepsControl _)).operands.2.1
      obtain ⟨⟨⟨hb, hd, he⟩, ⟨hb', hd', he'⟩, ⟨hbits', hbins', hlog⟩, -⟩, -⟩ | hend :=
        proceed_accepted_twins i hs1 hs2 henv1 henv2 hbits hbins
      · exact ⟨hb.trans hb'.symm, hd.trans hd'.symm, he.trans he'.symm, hbits', hbins', hlog,
          fun h => by simp [hb] at h, fun h => by simp [he] at h, fun h => by simp [hd] at h⟩
      · obtain ⟨hbits', hbins', hlog⟩ := hend.ports
        refine ⟨hend.busy.1.trans hend.busy.2.symm, hend.done, hend.err, hbits', hbins', hlog,
          fun _ => hend.resCount, hend.error, fun h => ?_⟩
        obtain ⟨htc, ht1, htz, hnum, hcbf, hcoef⟩ := hend.results h
        exact ⟨htc, ht1, htz, hnum, hcbf, hmax ▸ hcoef⟩

end Sys2Proof.Machine

namespace Sys2Proof.Machine

open Sys2Proof.Claims

/-! ## Bus errors, and what stays once BUSY is 0 -/

section
variable {off : BitVec 9} {size : Nat} {s : State}

theorem accessOk_iff : accessOk off size = true ↔ off.toNat % 4 = 0 ∧ size = 4 := by
  simp [accessOk]

theorem hostAccess_read_busError (hr : s.inReset = false) (h : accessOk off size = false) :
    hostAccess (.read off size) s = .next { s with resp := some .busError } := by
  simp [hostAccess, hostRead, hr, h]

theorem hostAccess_write_busError (hr : s.inReset = false) (h : accessOk off size = false) (w : Word) :
    hostAccess (.write off size w) s = .next { s with resp := some .busError } := by
  simp [hostAccess, hostWrite, hr, h]

/-- Every word written to CMD leads to a next state, which keeps the answer to the write. -/
theorem writeCmd_next (w : Word) (s : State) : ∃ t, writeCmd w s = .next t ∧ t.resp = s.resp := by
  obtain ⟨t, h⟩ : ∃ t, writeCmd w s = .next t := by
    unfold writeCmd
    split
    · exact ⟨_, exec_eq _ s⟩
    · exact ⟨_, rfl⟩
  refine ⟨t, h, ?_⟩
  obtain ⟨-, rfl⟩ | ⟨-, -, code, rfl⟩ | ⟨-, -, i, -, -, rfl⟩ := writeCmd_cases h
  · rfl
  · rfl
  · exact ((accepted_keepsControl i s).trans (proceed_keepsControl _)).resp

theorem writeCtrl_resp (w : Word) (s : State) : (writeCtrl w s).resp = s.resp := by
  cases hw : w.getLsbD 31 with
  | false => rw [writeCtrl_of_srst_zero hw]
  | true =>
    rw [writeCtrl_of_srst_one hw]
    unfold softReset
    split <;> simp

end

/-- Settles O43: an access passes `accessOk` exactly when it is whole and aligned, and each register that is written
acknowledges the write. -/
theorem busErrorExactlyWhenMisaligned : Obligations.BusErrorExactlyWhenMisaligned := by
  refine fun off size w s hr => ⟨fun hbad => ?_, fun hoff hsize => ?_⟩
  · have h : accessOk off size = false := by
      rw [Bool.eq_false_iff, Ne, accessOk_iff]
      omega
    exact ⟨hostAccess_read_busError hr h, hostAccess_write_busError hr h w⟩
  · subst hsize
    refine ⟨?_, ?_⟩
    · rw [hostAccess_read hr hoff]
      split
      · exact ⟨_, _, rfl, rfl⟩
      · exact ⟨_, _, rfl, rfl⟩
    · rw [hostAccess_write hr hoff]
      split_ifs
      · exact writeCmd_next w { s with resp := some .done }
      · exact ⟨_, rfl, writeCtrl_resp w _⟩
      · exact ⟨_, rfl, by rw [writeStatus_eq]⟩
      · exact ⟨_, rfl, rfl⟩

/-- The results, COEF and the ports are as before, and BUSY is 0 (R62). -/
def Final (s t : State) : Prop :=
  SameResults s t ∧ t.resCount = s.resCount ∧ SamePorts s t ∧ t.busy = false

theorem Final.refl {s : State} (hb : s.busy = false) : Final s s :=
  ⟨⟨rfl, rfl, rfl, rfl, rfl, rfl⟩, rfl, ⟨rfl, rfl, rfl⟩, hb⟩

/-- Settles O59: without BUSY the RCD takes no step of its own, a word written to CMD in ERROR is dropped, and the other
writes but a soft reset reach no result. -/
theorem resultsAreFinalOnceNotBusy : Obligations.ResultsAreFinalOnceNotBusy := by
  intro s t hb h hcmd hctrl hreset
  change Final s t
  obtain ⟨-, rfl⟩ | ⟨a, rest, henv, ha⟩ | ⟨rest, -, rfl⟩ | ⟨b, rest, henv, rfl⟩ := step_cases h
  · rw [runOn_of_not_busy hb, ite_self]
    exact .refl hb
  · obtain ⟨-, rfl⟩ | ⟨-, off, size, -, rfl⟩ | ⟨-, off, size, w, -, -, rfl⟩ | ⟨-, off, size, w, rfl, hok, hw⟩ :=
      hostAccess_cases ha
    · exact .refl hb
    · obtain ⟨r, d, hread⟩ := hostRead_frame off size { s with env := rest }
      rw [hread]
      exact .refl hb
    · exact .refl hb
    · obtain ⟨-, rfl⟩ := accessOk_iff.mp hok
      have hhead : s.env.head? = writeEvent off w := by rw [henv]; rfl
      obtain ⟨rfl, hw⟩ | ⟨rfl, rfl⟩ | ⟨rfl, rfl⟩ | ⟨-, -, -, rfl⟩ := hw
      · have he := hcmd w hhead
        obtain ⟨-, rfl⟩ | ⟨-, he', -⟩ | ⟨-, he', -⟩ := writeCmd_cases hw
        · exact .refl hb
        · simp [he] at he'
        · simp [he] at he'
      · rw [writeCtrl_of_srst_zero (hctrl w hhead)]
        exact .refl hb
      · rw [writeStatus_eq]
        exact .refl hb
      · exact .refl hb
  · rw [rcdTurn, rcdStep_of_not_busy (s := { s with env := rest }) hb, ite_self]
    exact .refl hb
  · cases b with
    | true => exact absurd (by rw [henv]; rfl) hreset
    | false => exact .refl hb

end Sys2Proof.Machine

/-! ## The RCD's updates do not depend on the outside world -/

namespace Sys2Proof.Machine

open Sys2Proof.Claims

/-- The RCD as in `s`, in the outside world of `x`: its events, its last answer and its ports; and `k` more free values
have been drawn. -/
def State.amid (s x : State) (k : Nat) : State :=
  { s with env := x.env, resp := x.resp, bits := x.bits, bins := x.bins, portLog := x.portLog, draws := s.draws + k }

/-- The RCD and its ports as in `s`, with other events to come, another last answer, and `n` more free values drawn. -/
def State.elsewhere (s : State) (env : List Event) (resp : Option Response) (n : Nat) : State :=
  { s with env := env, resp := resp, draws := s.draws + n }

/-- Updates without a port transaction: they read and write the RCD's own registers alone. Only those that raise an
error draw free values (R213), and they write the same ones only where as many were drawn before. -/
def Internal (f : State → State) : Prop :=
  ∀ (x : State) (k : Nat) (s : State), k = 0 ∨ (f s).err = false → f (s.amid x k) = (f s).amid x k

section
variable {f g : State → State}

theorem Internal.samePorts (hf : Internal f) (s : State) : SamePorts s (f s) := by
  have h : f s = (f s).amid s 0 := hf s 0 s (.inl rfl)
  rw [h]
  exact ⟨rfl, rfl, rfl⟩

theorem Internal.elsewhere (hf : Internal f) {env : List Event} {resp : Option Response} {n : Nat} {s : State}
    (h : n = 0 ∨ (f s).err = false) : f (s.elsewhere env resp n) = (f s).elsewhere env resp n := by
  obtain ⟨hbits, hbins, hlog⟩ := hf.samePorts s
  have hend : (f s).amid { s with env := env, resp := resp } n = (f s).elsewhere env resp n := by
    rw [State.amid, State.elsewhere, hbits, hbins, hlog]
  exact (hf _ n s h).trans hend

theorem Internal.ite {c : Work → Prop} [DecidablePred c] (hf : Internal f) (hg : Internal g) :
    Internal fun s => if c s.work then f s else g s := by
  intro x k s h
  dsimp only at h ⊢
  change (if c s.work then _ else _) = _
  by_cases hc : c s.work
  · simp only [if_pos hc] at h ⊢
    exact hf x k s h
  · simp only [if_neg hc] at h ⊢
    exact hg x k s h

/-- Updates that raise no error. -/
theorem Internal.update (hg : ∀ s x k, g (s.amid x k) = (g s).amid x k := by intros; rfl) : Internal g :=
  fun x k s _ => hg s x k

theorem Internal.after (hf : Internal f) (hg : ∀ s x k, g (s.amid x k) = (g s).amid x k := by intros; rfl) :
    Internal fun s => f (g s) := by
  intro x k s h
  dsimp only at h ⊢
  rw [hg]
  exact hf x k (g s) h

end

/-- An error draws its free values from where the count stands. -/
theorem raiseDecode_internal {code : ErrorCode} {se : SyntaxElement} (idx : Work → Nat) :
    Internal fun s => raiseDecode code se (idx s.work) s := by
  rintro x k s (rfl | h)
  · rfl
  · simp at h

theorem nextRun_internal : Internal nextRun :=
  .ite (c := fun w => w.i + 1 < w.tc ∧ 0 < w.zerosLeft) .update .update

theorem startRuns_internal : Internal startRuns := .after (f := nextRun) nextRun_internal

theorem startTotalZeros_internal : Internal startTotalZeros :=
  .ite (c := fun w => w.tc < w.maxN.toNat) .update (.after startRuns_internal)

theorem nextLevel_internal : Internal nextLevel :=
  .ite (c := fun w => w.i < w.tc) (.ite (c := fun w => w.i < w.t1) .update .update) startTotalZeros_internal

theorem coeffTokenFound_internal (v : Nat × Nat) : Internal (coeffTokenFound v) :=
  .ite (c := fun w => w.maxN.toNat < v.1) (.after (raiseDecode_internal fun _ => 0))
    (.ite (c := fun _ => v.1 = 0) .update (.after nextLevel_internal))

theorem finishLevel_internal : Internal finishLevel := .after (f := nextLevel) nextLevel_internal

theorem startLevelSuffix_internal : Internal startLevelSuffix :=
  .ite (c := fun w => 0 < suffixSize w.levelPrefix w.suffixLength) .update (.after finishLevel_internal)

theorem totalZerosFound_internal (v : Nat) : Internal (totalZerosFound v) :=
  .ite (c := fun w => w.maxN.toNat - w.tc < v) (.after (raiseDecode_internal fun _ => 0))
    (.after startRuns_internal)

theorem runBeforeFound_internal (v : Nat) : Internal (runBeforeFound v) :=
  .ite (c := fun w => w.zerosLeft < v) (raiseDecode_internal Work.i) (.after nextRun_internal)

/-- One bit of a codeword, with the table and the index of the present registers. -/
theorem vlcStep_internal {α : Type} {T : VlcTable α} {se : SyntaxElement} {idx : Nat} {found : α → State → State}
    (hf : ∀ v, Internal (found v)) (b : Bool) : Internal (vlcStep T se idx found b) := by
  intro x k s h
  cases hm : vlcMatch T (s.work.code ++ [b]) <;>
    have hm' : vlcMatch T ((s.amid x k).work.code ++ [b]) = _ := hm <;>
    simp only [vlcStep, hm, hm'] at h ⊢
  case codeword v => exact hf v x k _ h
  case unfinished => rfl
  case invalid => exact raiseDecode_internal (fun _ => idx) x k s h

theorem levelWalk_internal (n : Nat) : Internal (levelWalk n) := by
  induction n with
  | zero => exact .update
  | succ n ih => exact .ite (c := fun w => w.sig.getD n false) .update (.after ih)

theorem endScan_internal : Internal endScan := by
  intro x k s h
  rw [endScan_eq] at h ⊢
  exact levelWalk_internal s.work.numCoeff x k
    { s with work := { s.work with sig := scannedSig s, gt1 := 0, eq1 := 0 } } h

theorem nextScan_internal : Internal nextScan :=
  .ite (c := fun w => w.i + 1 < w.numCoeff) .update endScan_internal

theorem startScan_internal : Internal startScan := .after (f := nextScan) nextScan_internal

theorem startOf_internal (i : Instr) : Internal (startOf i) := by
  cases i with
  | cavlcBlock maxN nC => exact .update
  | cabacBlock maxN cat => exact .ite (c := fun w => w.maxN.toNat = 64) (.after startScan_internal) .update
  | zeroBlock maxN => exact .update

/-! ## Which port each phase asks -/

/-- What the RCD asks of a port: nothing, a bit (R55), or a bin (R58). -/
inductive Ask where
  | nothing
  | bit (se : SyntaxElement) (idx : Nat)
  | bin (se : SyntaxElement) (binIdx : Nat) (bypass : Bool) (idx : Nat)

/-- What the internal registers ask in their phase (R102 to R114, R151 to R159). -/
def Work.ask (w : Work) : Ask :=
  match w.phase with
  | .idle | .cavlcFinish | .cabacFinish | .zeroFinish => .nothing
  | .coeffToken => .bit .coeffToken 0
  | .trailingOne => .bit .trailingOnesSignFlag w.i
  | .levelPrefix => .bit .levelPrefix w.i
  | .levelSuffix => .bit .levelSuffix w.i
  | .totalZeros => .bit .totalZeros 0
  | .runBefore => .bit .runBefore w.i
  | .codedBlockFlag => .bin .codedBlockFlag 0 false 0
  | .significance => .bin .significantCoeffFlag 0 false w.i
  | .lastFlag => .bin .lastSignificantCoeffFlag 0 false w.i
  | .absPrefix => .bin .coeffAbsLevelMinus1 w.binIdx false w.i
  | .absUnary | .absBits => .bin .coeffAbsLevelMinus1 w.binIdx true w.i
  | .coeffSign => .bin .coeffSignFlag 0 true w.i

/-- The port is asked, and the RCD goes on with `k` and the answer. -/
def Ask.take (a : Ask) (k : Bool → State → State) : State → State :=
  match a with
  | .nothing => k false
  | .bit se idx => bitRead se idx k
  | .bin se binIdx bypass idx => binRead se binIdx bypass idx k

/-- One internal step at the registers `w` is their request, and internal updates with the answer (R184). -/
def Work.StepIsAsk (w : Work) : Prop :=
  ∃ k : Bool → State → State, (∀ b, Internal (k b)) ∧
    ∀ s : State, s.busy = true → s.work = w → rcdStep s = w.ask.take k s

section
variable {w : Work} {k : Bool → State → State}

theorem Work.StepIsAsk.intro
    (hstep : ∀ s : State,
      rcdStep { s with busy := true, work := w } = w.ask.take k { s with busy := true, work := w })
    (hk : ∀ b, Internal (k b)) : w.StepIsAsk := by
  refine ⟨k, hk, ?_⟩
  rintro s hb rfl
  have h : { s with busy := true, work := s.work } = s := by rw [← hb]
  exact h ▸ hstep s

theorem Work.StepIsAsk.bit {f : State → State} {se : SyntaxElement} {idx : Nat} (hw : w.ask = .bit se idx)
    (hstep : ∀ s : State, rcdStep { s with busy := true, work := w } = f { s with busy := true, work := w })
    (hf : ∀ s : State, f { s with busy := true, work := w } = bitRead se idx k { s with busy := true, work := w })
    (hk : ∀ b, Internal (k b)) : w.StepIsAsk :=
  .intro (fun s => ((hstep s).trans (hf s)).trans (by rw [hw]; rfl)) hk

theorem Work.StepIsAsk.bin {f : State → State} {se : SyntaxElement} {binIdx idx : Nat} {bypass : Bool}
    (hw : w.ask = .bin se binIdx bypass idx)
    (hstep : ∀ s : State, rcdStep { s with busy := true, work := w } = f { s with busy := true, work := w })
    (hf : ∀ s : State,
      f { s with busy := true, work := w } = binRead se binIdx bypass idx k { s with busy := true, work := w })
    (hk : ∀ b, Internal (k b)) : w.StepIsAsk :=
  .intro (fun s => ((hstep s).trans (hf s)).trans (by rw [hw]; rfl)) hk

end

theorem Work.stepIsAsk (w : Work) : w.StepIsAsk := by
  suffices h : ∀ p v, v = { w with phase := p } → v.StepIsAsk from h w.phase w rfl
  rintro p v rfl
  cases p with
  | idle => exact .intro (k := fun _ s => s) (fun _ => rfl) fun _ => .update
  | coeffToken =>
    exact .bit (f := coeffTokenStep) (k := vlcStep (coeffTokenTable w.nC.toInt) .coeffToken 0 coeffTokenFound)
      rfl (fun _ => rfl) (fun _ => rfl) (vlcStep_internal coeffTokenFound_internal)
  | trailingOne =>
    refine .bit (f := trailingOneStep) rfl (fun _ => rfl) (fun _ => rfl) ?_
    exact fun _ => .after nextLevel_internal
  | levelPrefix =>
    refine .bit (f := levelPrefixStep) rfl (fun _ => rfl) (fun _ => rfl) ?_
    exact fun b => .ite (c := fun _ => b = true) startLevelSuffix_internal
      (.ite (c := fun w => Config.levelPrefixMax < w.levelPrefix + 1)
        (.after (raiseDecode_internal Work.i)) .update)
  | levelSuffix =>
    refine .bit (f := levelSuffixStep) rfl (fun _ => rfl) (fun _ => rfl) ?_
    exact fun _ => .ite (c := fun w => w.j - 1 = 0) (.after finishLevel_internal) .update
  | totalZeros =>
    exact .bit (f := totalZerosStep) (k := vlcStep (totalZerosTable w.maxN.toNat w.tc) .totalZeros 0 totalZerosFound)
      rfl (fun _ => rfl) (fun _ => rfl) (vlcStep_internal totalZerosFound_internal)
  | runBefore =>
    exact .bit (f := runBeforeStep) (k := vlcStep (runBeforeTable (min w.zerosLeft 7)) .runBefore w.i runBeforeFound)
      rfl (fun _ => rfl) (fun _ => rfl) (vlcStep_internal runBeforeFound_internal)
  | cavlcFinish => exact .intro (k := fun _ => cavlcFinishStep) (fun _ => rfl) fun _ => .update
  | codedBlockFlag =>
    refine .bin (f := codedBlockFlagStep) rfl (fun _ => rfl) (fun _ => rfl) ?_
    exact fun b => .ite (c := fun _ => b = true) (.after startScan_internal) .update
  | significance =>
    refine .bin (f := significanceStep) rfl (fun _ => rfl) (fun _ => rfl) ?_
    exact fun b => .ite (c := fun _ => b = true) .update (.after nextScan_internal)
  | lastFlag =>
    refine .bin (f := lastFlagStep) rfl (fun _ => rfl) (fun _ => rfl) ?_
    exact fun _ => .after nextScan_internal
  | absPrefix =>
    refine .bin (f := absPrefixStep) rfl (fun _ => rfl) (fun _ => rfl) ?_
    exact fun b => .ite (c := fun _ => b = true)
      (.ite (c := fun w => w.binIdx + 1 < 14) .update .update) .update
  | absUnary =>
    refine .bin (f := absUnaryStep) rfl (fun _ => rfl) (fun _ => rfl) ?_
    exact fun b => .ite (c := fun _ => b = true)
      (.ite (c := fun w => Config.eg0KMax < w.k + 1) (.after (raiseDecode_internal Work.i)) .update)
      (.ite (c := fun w => w.k = 0) .update .update)
  | absBits =>
    refine .bin (f := absBitsStep) rfl (fun _ => rfl) (fun _ => rfl) ?_
    exact fun _ => .ite (c := fun w => w.k - 1 = 0) .update .update
  | coeffSign =>
    refine .bin (f := coeffSignStep) rfl (fun _ => rfl) (fun _ => rfl) ?_
    exact fun _ x k s h => levelWalk_internal s.work.i x k _ h
  | cabacFinish => exact .intro (k := fun _ => cabacFinishStep) (fun _ => rfl) fun _ => .update
  | zeroFinish => exact .intro (k := fun _ => zeroFinishStep) (fun _ => rfl) fun _ => .update

/-! ## Steps in another outside world, and how long a run goes on -/

section
variable {s : State} {env : List Event} {resp : Option Response} {n : Nat} {k : Bool → State → State}

theorem bitRead_elsewhere {se : SyntaxElement} {idx : Nat} (hk : ∀ b, Internal (k b))
    (h : n = 0 ∨ (bitRead se idx k s).err = false) :
    bitRead se idx k (s.elsewhere env resp n) = (bitRead se idx k s).elsewhere env resp n := by
  unfold bitRead at h ⊢
  rw [show (s.elsewhere env resp n).bits = s.bits from rfl]
  rcases hbits : s.bits with _ | ⟨b | _, rest⟩
  · rfl
  · rw [hbits] at h
    exact (hk b).elsewhere h
  · rw [hbits] at h
    exact (raiseDecode_internal fun _ => idx).elsewhere h

theorem binRead_elsewhere {se : SyntaxElement} {binIdx idx : Nat} {bypass : Bool} (hk : ∀ b, Internal (k b))
    (h : n = 0 ∨ (binRead se binIdx bypass idx k s).err = false) :
    binRead se binIdx bypass idx k (s.elsewhere env resp n) =
      (binRead se binIdx bypass idx k s).elsewhere env resp n := by
  unfold binRead at h ⊢
  rw [show (s.elsewhere env resp n).bins = s.bins from rfl]
  rcases hbins : s.bins with _ | ⟨b | _, rest⟩
  · rfl
  · rw [hbins] at h
    exact (hk b).elsewhere h
  · rw [hbins] at h
    exact (raiseDecode_internal fun _ => idx).elsewhere h

/-- A host read moves the RCD elsewhere: another last answer, and a free value drawn or none (R51, R34). -/
theorem hostRead_elsewhere (off : BitVec 9) (size : Nat) (s : State) :
    ∃ resp n, hostRead off size s = s.elsewhere s.env resp n := by
  unfold hostRead
  split_ifs
  · exact ⟨_, 1, rfl⟩
  · exact ⟨_, 0, rfl⟩
  · exact ⟨_, 0, rfl⟩

/-- A step is the same whatever events are to come, whatever was answered last, and however many free values were
drawn before, unless it draws some for an error (R61). -/
theorem rcdStep_elsewhere (h : n = 0 ∨ (rcdStep s).err = false) :
    rcdStep (s.elsewhere env resp n) = (rcdStep s).elsewhere env resp n := by
  obtain hb | hb := Bool.eq_false_or_eq_true s.busy
  · obtain ⟨k, hk, hstep⟩ := s.work.stepIsAsk
    rw [hstep s hb rfl] at h ⊢
    rw [hstep (s.elsewhere env resp n) hb rfl]
    cases hask : s.work.ask with
    | nothing =>
      rw [hask] at h
      exact (hk false).elsewhere h
    | bit se idx =>
      rw [hask] at h
      exact bitRead_elsewhere hk h
    | bin se binIdx bypass idx =>
      rw [hask] at h
      exact binRead_elsewhere hk h
  · rw [rcdStep_of_not_busy hb]
    exact rcdStep_of_not_busy (s := s.elsewhere env resp n) hb

end

/-- Settles O47: a read changes the last answer and draws at most one free value, and a step that raises no error is the
same elsewhere. -/
theorem hostReadDoesNotDisturb : Obligations.HostReadDoesNotDisturb := by
  intro off size s _ he
  obtain ⟨r, n, hread⟩ := hostRead_elsewhere off size s
  have henv := (rcdStep_keepsControl s).env
  refine ⟨r, (rcdStep s).draws + n, ?_⟩
  rw [hread, rcdStep_elsewhere (.inr he), ← henv]
  rfl

section
variable {s : State} {env : List Event}

/-- Only the events are others. -/
theorem elsewhere_eq_env {t : State} (h : t.resp = s.resp) :
    t.elsewhere env s.resp 0 = { t with env := env } := by
  rw [State.elsewhere, ← h]
  rfl

theorem rcdStep_env (s : State) (env : List Event) : rcdStep { s with env := env } = { rcdStep s with env := env } :=
  (rcdStep_elsewhere (.inl rfl)).trans (elsewhere_eq_env (rcdStep_keepsControl s).resp)

theorem accepted_env (i : Instr) (s : State) (env : List Event) :
    accepted i { s with env := env } = { accepted i s with env := env } :=
  ((startOf_internal i).elsewhere (.inl rfl)).trans (elsewhere_eq_env (s := s) (accepted_keepsControl i s).resp)

/-- A phase that asks no port is the last of its command. -/
theorem rcdStep_of_asks_nothing (h : s.work.ask = .nothing) : rcdStep s = s ∨ (rcdStep s).busy = false := by
  obtain hb | hb := Bool.eq_false_or_eq_true s.busy
  · unfold rcdStep
    rw [if_pos hb]
    split <;> rename_i hp <;> simp only [Work.ask, hp, reduceCtorEq] at h
    · exact .inl rfl
    · exact .inr rfl
    · exact .inr rfl
    · exact .inr rfl
  · exact .inl (rcdStep_of_not_busy hb)

theorem bitRead_ports {se : SyntaxElement} {idx : Nat} {k : Bool → State → State} (hk : ∀ b, Internal (k b)) :
    bitRead se idx k s = s ∨ ∃ a, s.bits = a :: (bitRead se idx k s).bits ∧ (bitRead se idx k s).bins = s.bins ∧
      (bitRead se idx k s).portLog = .bitRead a :: s.portLog := by
  obtain ⟨-, ht⟩ | ⟨rest, hbits, ht⟩ | ⟨b, rest, hbits, ht⟩ := bitRead_cases se idx k s <;> rw [ht]
  · exact .inl rfl
  · exact .inr ⟨.eos, by simpa using hbits, by simp, by simp⟩
  · obtain ⟨hbits', hbins', hlog'⟩ := (hk b).samePorts { s with
      bits := rest, portLog := .bitRead (.bit b) :: s.portLog, work := { s.work with count := s.work.count + 1 } }
    exact .inr ⟨.bit b, by rw [hbits', hbits], hbins', hlog'⟩

theorem binRead_ports {se : SyntaxElement} {binIdx idx : Nat} {bypass : Bool} {k : Bool → State → State}
    (hk : ∀ b, Internal (k b)) :
    binRead se binIdx bypass idx k s = s ∨ ∃ a, s.bins = a :: (binRead se binIdx bypass idx k s).bins ∧
      (binRead se binIdx bypass idx k s).bits = s.bits ∧
      (binRead se binIdx bypass idx k s).portLog = .binRead (binRequest se binIdx bypass idx s) a :: s.portLog := by
  obtain ⟨-, ht⟩ | ⟨rest, hbins, ht⟩ | ⟨b, rest, hbins, ht⟩ := binRead_cases se binIdx bypass idx k s <;> rw [ht]
  · exact .inl rfl
  · exact .inr ⟨.eos, by simpa using hbins, by simp, by simp⟩
  · obtain ⟨hbits', hbins', hlog'⟩ := (hk b).samePorts { s with
      bins := rest, portLog := .binRead (binRequest se binIdx bypass idx s) (.bit b) :: s.portLog
      work := { s.work with count := s.work.count + 1 } }
    exact .inr ⟨.bit b, by rw [hbins', hbins], hbits', hlog'⟩

/-- A step does nothing, or ends the command, or takes one of the answers to come (R184, R251). -/
theorem rcdStep_spends (s : State) : rcdStep s = s ∨ (rcdStep s).busy = false ∨
    (rcdStep s).bits.length + (rcdStep s).bins.length < s.bits.length + s.bins.length := by
  obtain hb | hb := Bool.eq_false_or_eq_true s.busy
  · obtain ⟨k, hk, hstep⟩ := s.work.stepIsAsk
    have hstep := hstep s hb rfl
    cases hask : s.work.ask with
    | nothing =>
      obtain h | h := rcdStep_of_asks_nothing hask
      · exact .inl h
      · exact .inr (.inl h)
    | bit se idx =>
      rw [hstep, hask, Ask.take]
      obtain h | ⟨a, hbits, hbins, -⟩ := bitRead_ports (s := s) (se := se) (idx := idx) hk
      · exact .inl h
      · exact .inr (.inr (by rw [hbins, hbits, List.length_cons]; omega))
    | bin se binIdx bypass idx =>
      rw [hstep, hask, Ask.take]
      obtain h | ⟨a, hbins, hbits, -⟩ :=
        binRead_ports (s := s) (se := se) (binIdx := binIdx) (bypass := bypass) (idx := idx) hk
      · exact .inl h
      · exact .inr (.inr (by rw [hbits, hbins, List.length_cons]; omega))
  · exact .inl (rcdStep_of_not_busy hb)

/-- With more steps than answers the RCD comes to rest: it waits, or the command has ended (R251). -/
theorem rcdStep_rcdSteps {n : Nat} (h : s.bits.length + s.bins.length < n) :
    rcdStep (rcdSteps n s) = rcdSteps n s := by
  induction n generalizing s with
  | zero => exact absurd h (Nat.not_lt_zero _)
  | succ n ih =>
    rw [rcdSteps_succ]
    obtain hfix | hend | hless := rcdStep_spends s
    · rw [hfix, rcdSteps_of_fixed hfix, hfix]
    · have hfix := rcdStep_of_not_busy hend
      rw [rcdSteps_of_fixed hfix, hfix]
    · exact ih (by omega)

/-- There is one state where a run comes to rest. -/
theorem rcdSteps_eq_of_fixed {m n : Nat} (hm : rcdStep (rcdSteps m s) = rcdSteps m s)
    (hn : rcdStep (rcdSteps n s) = rcdSteps n s) : rcdSteps m s = rcdSteps n s :=
  calc rcdSteps m s = rcdSteps n (rcdSteps m s) := (rcdSteps_of_fixed hm n).symm
    _ = rcdSteps m (rcdSteps n s) := by rw [← rcdSteps_add, ← rcdSteps_add, Nat.add_comm]
    _ = rcdSteps n s := rcdSteps_of_fixed hn m

/-- Running on alone ends where a run comes to rest (R251). -/
theorem runOn_eq_of_fixed {n : Nat} (h : rcdStep (rcdSteps n s) = rcdSteps n s) : runOn s = rcdSteps n s :=
  rcdSteps_eq_of_fixed (rcdStep_rcdSteps (Nat.lt_succ_self _)) h

theorem run_succ_of_step {u t : State} {n : Nat} (h : step u = .next t) :
    Sys2Proof.core.run (n + 1) u = Sys2Proof.core.run n t := by
  have hcore : Sys2Proof.core.step u = .next t := h
  simp only [Host.Core.run, hcore]

/-- `n` turns of the RCD are `n` internal steps (R61). -/
theorem run_turns (n : Nat) (hr : s.inReset = false) (henv : s.env = []) :
    Sys2Proof.core.run n { s with env := List.replicate n .rcd } = .next (rcdSteps n s) := by
  induction n generalizing s with
  | zero =>
    rw [List.replicate_zero, ← henv]
    rfl
  | succ n ih =>
    have hstep : step { s with env := List.replicate (n + 1) .rcd } =
        .next { rcdStep s with env := List.replicate n .rcd } := by
      rw [← rcdStep_env, List.replicate_succ]
      simp only [step, nextEvent, rcdTurn, hr, Bool.false_eq_true, if_false]
    have hc := rcdStep_keepsControl s
    rw [rcdSteps_succ, ← ih (hc.inReset.trans hr) (hc.env.trans henv)]
    exact run_succ_of_step hstep

end

/-- Settles O37: the turns are the internal steps of the accepted command, and with more steps than answers the run has
come to rest. -/
theorem turnsMakeTheSameRun : Obligations.TurnsMakeTheSameRun := by
  rintro i s t u n ⟨hb, he, hr⟩ henv hwf hn ht hu
  obtain ⟨hdrop, -⟩ | ⟨-, -, hwf', -⟩ | ⟨-, -, -, rfl⟩ := exec_cases ht
  · simp [hb, he] at hdrop
  · simp [hwf] at hwf'
  obtain ⟨hdrop, -⟩ | ⟨-, -, hwf', -⟩ | ⟨-, -, -, rfl⟩ := exec_cases hu
  · simp [hb, he] at hdrop
  · simp [hwf] at hwf'
  have hc := accepted_keepsControl i s
  obtain ⟨hbits, hbins, -⟩ := (startOf_internal i).samePorts (latch (encode i) { s with cmd := encode i, done := false })
  have hturns : List.replicate n Event.rcd ≠ [] := by
    rw [Ne, List.replicate_eq_nil_iff]
    omega
  rw [accepted_env]
  simp only [proceed, hturns, hc.env.trans henv, List.isEmpty_iff, if_true, if_false]
  rw [run_turns n (hc.inReset.trans hr) (hc.env.trans henv), runOn_eq_of_fixed (rcdStep_rcdSteps ?_)]
  rw [show (accepted i s).bits = s.bits from hbits, show (accepted i s).bins = s.bins from hbins]
  omega

end Sys2Proof.Machine

/-! ## The fields of the bin requests -/

namespace Sys2Proof.Machine

open Sys2Proof.Claims

@[simp] theorem catField_cmd32 (cat : BitVec 3) (nC : BitVec 6) (maxN : BitVec 7) (op : BitVec 4) :
    catField (cmd32 cat nC maxN op) = cat := by
  ext k hk
  simp only [catField, cmd32, BitVec.getElem_extractLsb', BitVec.getLsbD_append]
  interval_cases k <;> simp

/-- What the fields of a bin request of CABAC_BLOCK meet (R59, R158, R160). -/
def RequestOk (maxN : BitVec 7) (cat : BitVec 3) (req : BinRequest) : Prop :=
  req.cat = cat ∧ req.maxN = maxN ∧ 8 ≤ req.se.toNat ∧ req.se.toNat ≤ 12 ∧ req.idx.toNat < maxN.toNat ∧
  (req.bypass = true ↔ (req.se = 11 ∧ 14 ≤ req.binIdx.toNat) ∨ req.se = 12) ∧
  (req.se ≠ 11 → req.binIdx = 0 ∧ req.gt1 = 0 ∧ req.eq1 = 0) ∧
  (req.se = 11 → req.binIdx.toNat ≤ 72 ∧ req.gt1.toNat + req.eq1.toNat + req.idx.toNat < maxN.toNat) ∧
  (req.se = 9 ∨ req.se = 10 → req.idx.toNat + 1 < maxN.toNat)

/-- A part of a log in which every entry is a bin request whose fields meet `RequestOk`. -/
def RequestsOk (maxN : BitVec 7) (cat : BitVec 3) (log : List Transaction) : Prop :=
  ∀ x ∈ log, ∃ req a, x = .binRead req a ∧ RequestOk maxN cat req

section
variable {s : State} {se : SyntaxElement} {idx binIdx : Nat} {bypass : Bool}

/-- A request of an element read in one bin. -/
theorem requestOk_flag (hse : se = .codedBlockFlag ∨ se = .significantCoeffFlag ∨ se = .lastSignificantCoeffFlag ∨
      se = .coeffSignFlag) (hbypass : bypass = true ↔ se = .coeffSignFlag) (hmax : s.work.maxN.toNat ≤ 64)
    (hidx : idx < s.work.maxN.toNat)
    (hscan : se = .significantCoeffFlag ∨ se = .lastSignificantCoeffFlag → idx + 1 < s.work.maxN.toNat) :
    RequestOk s.work.maxN s.work.cat (binRequest se 0 bypass idx s) := by
  have hnat : (BitVec.ofNat 6 idx).toNat = idx := by
    rw [BitVec.toNat_ofNat]
    omega
  unfold RequestOk binRequest
  simp only [hnat, hbypass]
  obtain rfl | rfl | rfl | rfl := hse <;> simp [SyntaxElement.code] at hscan ⊢ <;> omega

/-- A request of a bin of coeff_abs_level_minus1. -/
theorem requestOk_abs (hbin : binIdx ≤ 72) (hbypass : bypass = true ↔ 14 ≤ binIdx) (hmax : s.work.maxN.toNat ≤ 64)
    (hidx : s.work.gt1 + s.work.eq1 + idx < s.work.maxN.toNat) :
    RequestOk s.work.maxN s.work.cat (binRequest .coeffAbsLevelMinus1 binIdx bypass idx s) := by
  have hnat : (BitVec.ofNat 6 idx).toNat = idx := by
    rw [BitVec.toNat_ofNat]
    omega
  have hnat7 : ∀ n, n ≤ 72 → (BitVec.ofNat 7 n).toNat = n := fun n hn => by
    rw [BitVec.toNat_ofNat]
    omega
  unfold RequestOk binRequest
  simp only [hnat, hbypass, if_true, hnat7 binIdx hbin, hnat7 s.work.gt1 (by omega), hnat7 s.work.eq1 (by omega)]
  simp [SyntaxElement.code]
  omega

/-- In the phase of the suffix bins the bin index has passed the 14 prefix bins (R157). -/
def Work.suffixOk (w : Work) : Prop := w.phase = .absBits → 14 ≤ w.binIdx

/-- Every request of a phase of CABAC_BLOCK whose registers fit together. -/
theorem requestOk_of_ask (hp : s.work.phaseOk) (hl : s.work.liveOk) (hs : s.work.suffixOk)
    (hask : s.work.ask = .bin se binIdx bypass idx) :
    RequestOk s.work.maxN s.work.cat (binRequest se binIdx bypass idx s) := by
  unfold Work.ask at hask
  unfold Work.phaseOk at hp
  unfold Work.liveOk at hl
  unfold Work.suffixOk at hs
  cases hph : s.work.phase <;> simp only [hph, reduceCtorEq, forall_const, Ask.bin.injEq, Work.walkOk] at hask hp hl hs <;>
    obtain ⟨rfl, rfl, rfl, rfl⟩ := hask
  case codedBlockFlag =>
    obtain ⟨hlegal, -⟩ := hp
    have := cabacLegal_bounds hlegal
    exact requestOk_flag (by simp) (by simp) (by omega) (by omega) (by simp)
  case significance | lastFlag =>
    obtain ⟨hlegal, hnum, hi⟩ := hp
    have := cabacLegal_bounds hlegal
    exact requestOk_flag (by simp) (by simp) (by omega) (by omega) (fun _ => by omega)
  case coeffSign =>
    obtain ⟨hlegal, hi, hmax, -⟩ := hp
    have := cabacLegal_bounds hlegal
    exact requestOk_flag (by simp) (by simp) (by omega) (by omega) (by simp)
  case absPrefix =>
    obtain ⟨⟨hlegal, hi, hmax, hcounters⟩, hbin, -⟩ := hp
    have := cabacLegal_bounds hlegal
    exact requestOk_abs (by omega) (by simpa using hbin) (by omega) (by omega)
  case absUnary =>
    obtain ⟨⟨hlegal, hi, hmax, hcounters⟩, hbin, -⟩ := hp
    have := cabacLegal_bounds hlegal
    exact requestOk_abs (by omega) (by simp [hbin]) (by omega) (by omega)
  case absBits =>
    obtain ⟨⟨hlegal, hi, hmax, hcounters⟩, hk, hbin, -⟩ := hp
    have := cabacLegal_bounds hlegal
    exact requestOk_abs (by omega) (by simpa using hs) (by omega) (by omega)

end

/-! ### The bin index in the suffix -/

section
variable {s : State}

theorem suffixOk_of_phase {w : Work} (h : w.phase ≠ .absBits) : w.suffixOk := fun hp => absurd hp h

theorem levelWalk_suffixOk (n : Nat) (s : State) : (levelWalk n s).work.suffixOk := by
  induction n generalizing s with
  | zero => exact suffixOk_of_phase nofun
  | succ n ih =>
    unfold levelWalk
    split
    · exact suffixOk_of_phase nofun
    · exact ih _

theorem nextScan_suffixOk (s : State) : (nextScan s).work.suffixOk := by
  unfold nextScan
  split
  · exact suffixOk_of_phase nofun
  · exact levelWalk_suffixOk _ _

theorem binRead_suffixOk {se : SyntaxElement} {idx binIdx : Nat} {bypass : Bool} {k : Bool → State → State}
    (hs : s.work.suffixOk)
    (hk : ∀ b u, u.work = { s.work with count := s.work.count + 1 } → (k b u).work.suffixOk) :
    (binRead se binIdx bypass idx k s).work.suffixOk := by
  obtain ⟨-, ht⟩ | ⟨rest, -, ht⟩ | ⟨b, rest, -, ht⟩ := binRead_cases se binIdx bypass idx k s <;> rw [ht]
  · exact hs
  · exact suffixOk_of_phase (by simp)
  · exact hk b _ rfl

/-- The suffix bins begin after the unary part, which is after bin 14 (R157). -/
theorem rcdStep_suffixOk (hb : s.busy = true) (hp : s.work.phaseOk) (hop : s.work.phase.op = 2)
    (hs : s.work.suffixOk) : (rcdStep s).work.suffixOk := by
  unfold rcdStep
  rw [if_pos hb]
  cases hph : s.work.phase <;> simp only [hph, Phase.op, BitVec.reduceEq] at hop ⊢
  case codedBlockFlag =>
    refine binRead_suffixOk hs fun b u _ => ?_
    dsimp only
    split
    · exact nextScan_suffixOk _
    · exact suffixOk_of_phase nofun
  case significance =>
    refine binRead_suffixOk hs fun b u _ => ?_
    dsimp only
    split
    · exact suffixOk_of_phase nofun
    · exact nextScan_suffixOk _
  case lastFlag => exact binRead_suffixOk hs fun b u _ => nextScan_suffixOk _
  case absPrefix =>
    refine binRead_suffixOk hs fun b u hu => ?_
    dsimp only
    split_ifs
    · exact suffixOk_of_phase (by simp [hu, hph])
    · exact suffixOk_of_phase nofun
    · exact suffixOk_of_phase nofun
  case absUnary =>
    simp only [Work.phaseOk, hph] at hp
    obtain ⟨-, hbin, -⟩ := hp
    refine binRead_suffixOk hs fun b u hu => ?_
    dsimp only
    split_ifs
    · exact suffixOk_of_phase (by simp)
    · exact suffixOk_of_phase (by simp [hu, hph])
    · exact suffixOk_of_phase nofun
    · intro _
      simp only [toPhase_work, hu]
      omega
  case absBits =>
    refine binRead_suffixOk hs fun b u hu => ?_
    dsimp only
    split
    · exact suffixOk_of_phase nofun
    · intro _
      simp only [hu]
      exact Nat.le_succ_of_le (hs hph)
  case coeffSign => exact binRead_suffixOk hs fun b u _ => levelWalk_suffixOk _ _
  case cabacFinish => exact suffixOk_of_phase nofun

end

/-! ### The requests of a run -/

/-- A run of CABAC_BLOCK in state `u`, whose requests since the log `l` meet `RequestOk`. -/
structure RequestsRun (maxN : BitVec 7) (cat : BitVec 3) (l : List Transaction) (u : State) : Prop where
  sound : Sound False none u
  suffix : u.work.suffixOk
  op : u.busy = true → u.work.phase.op = 2
  maxN_eq : u.work.maxN = maxN
  cat_eq : u.work.cat = cat
  log : ∃ log, u.portLog = log ++ l ∧ RequestsOk maxN cat log

section
variable {maxN : BitVec 7} {cat : BitVec 3} {l : List Transaction} {s u : State}

/-- The step of a CABAC_BLOCK phase makes no request, or the one request of its phase. -/
theorem rcdStep_request (hb : s.busy = true) (hop : s.work.phase.op = 2) : SamePorts s (rcdStep s) ∨
    ∃ se binIdx bypass idx a, s.work.ask = .bin se binIdx bypass idx ∧
      (rcdStep s).portLog = .binRead (binRequest se binIdx bypass idx s) a :: s.portLog := by
  obtain ⟨k, hk, hstep⟩ := s.work.stepIsAsk
  rw [hstep s hb rfl]
  cases hask : s.work.ask with
  | nothing => exact .inl ((hk false).samePorts s)
  | bit se idx =>
    cases hph : s.work.phase <;> simp [Work.ask, hph, Phase.op] at hask hop
  | bin se binIdx bypass idx =>
    obtain h | ⟨a, -, -, hlog⟩ :=
      binRead_ports (s := s) (se := se) (binIdx := binIdx) (bypass := bypass) (idx := idx) hk
    · exact .inl (by rw [Ask.take, h]; exact ⟨rfl, rfl, rfl⟩)
    · exact .inr ⟨se, binIdx, bypass, idx, a, rfl, hlog⟩

theorem RequestsRun.rcdStep (h : RequestsRun maxN cat l u) : RequestsRun maxN cat l (rcdStep u) := by
  obtain hb | hb := Bool.eq_false_or_eq_true u.busy
  · obtain ⟨hsound, hsuffix, hop, hmaxN, hcat, log, hlog, hok⟩ := h
    obtain ⟨hp, hl, -⟩ := hsound.phase hb
    obtain ⟨-, hmaxN', -, hcat'⟩ := (rcdStep_keepsControl u).operands
    refine ⟨rcdStep_sound u hsound, rcdStep_suffixOk hb hp (hop hb) hsuffix,
      fun hb' => (rcdStep_keepsOutcome hb').2.2.trans (hop hb), hmaxN'.trans hmaxN, hcat'.trans hcat, ?_⟩
    obtain ⟨-, -, hsame⟩ | ⟨se, binIdx, bypass, idx, a, hask, hreq⟩ := rcdStep_request hb (hop hb)
    · exact ⟨log, hsame.trans hlog, hok⟩
    · refine ⟨_ :: log, by rw [hreq, hlog]; rfl, List.forall_mem_cons.mpr ⟨⟨_, a, rfl, ?_⟩, hok⟩⟩
      rw [← hmaxN, ← hcat]
      exact requestOk_of_ask hp hl hsuffix hask
  · rwa [rcdStep_of_not_busy hb]

theorem accepted_requestsRun (h : cabacLegal maxN = true) (cat : BitVec 3) (s : State) :
    RequestsRun maxN cat s.portLog (accepted (.cabacBlock maxN cat) s) := by
  have hstart := startOf_progress (.cabacBlock maxN cat)
    (latch (encode (.cabacBlock maxN cat)) { s with cmd := encode (.cabacBlock maxN cat), done := false })
  obtain ⟨-, hmaxN, -, hcat⟩ := hstart.keepsControl.operands
  refine ⟨(accepted_lands (F := False) (B := none) (i := .cabacBlock maxN cat) h nofun nofun).1, ?_, fun hb => ?_,
    hmaxN.trans ?_, hcat.trans ?_, [], hstart.samePorts.2.2, nofun⟩
  · unfold accepted startOf startCabac
    dsimp only
    split
    · exact nextScan_suffixOk _
    · exact suffixOk_of_phase nofun
  · exact (hstart.keepsOutcome hb).2.trans (opField_cmd32 ..)
  · exact maxNField_cmd32 ..
  · exact catField_cmd32 ..

end

/-- Settles O28: each step of a run makes at most the one request of its phase, and the invariant of the internal
registers bounds its fields. -/
theorem cabacRequestFields : Obligations.CabacRequestFields := by
  rintro maxN cat s t log ⟨hb, he, -⟩ hlegal h hlog
  suffices hrun : ∃ log', t.portLog = log' ++ s.portLog ∧ RequestsOk maxN cat log' by
    obtain ⟨log', hlog', hok⟩ := hrun
    rwa [List.append_cancel_right (hlog.symm.trans hlog')]
  obtain ⟨hdrop, -⟩ | ⟨-, -, hwf, -⟩ | ⟨-, -, -, rfl⟩ := exec_cases h
  · simp [hb, he] at hdrop
  · exact absurd hlegal (by simpa [Instr.wellFormed] using hwf)
  · exact (proceed_keeps (P := RequestsRun maxN cat s.portLog) (fun u hu => hu.rcdStep) _
      (accepted_requestsRun hlegal cat s)).log

end Sys2Proof.Machine

/-! ## The RCD follows the pseudocode, one step a port transaction -/

namespace Sys2Proof.Machine

open Sys2Proof.Claims

/-- From `s` to `t` the transactions `log` have been made, each answered one counted (R212), and `rest` is what the port
still answers. -/
def Reaches (port : State → List Answer) (log : List Transaction) (rest : List Answer) (s t : State) : Prop :=
  port t = rest ∧ t.portLog = log.reverse ++ s.portLog ∧ t.work.count = s.work.count + log.countP answered

/-- What the part `p` of the pseudocode makes of the answers of a port, the RCD does from `s` in as many internal steps
as `p` makes transactions: it is BUSY in a state that meets `Q`, or it has raised the error, or it waits. -/
def Follows {α : Type} (port : State → List Answer) (p : Parser α) (Q : α → State → Prop) (s : State) : Prop :=
  match p (port s) with
  | .got v log rest =>
    Reaches port log rest s (rcdSteps log.length s) ∧ log.countP answered = log.length ∧
    (rcdSteps log.length s).busy = true ∧ Q v (rcdSteps log.length s)
  | .error c se idx log rest => ∃ u, rcdSteps log.length s = raiseDecode c se idx u ∧ Reaches port log rest s u
  | .waiting log =>
    Reaches port log [] s (rcdSteps log.length s) ∧ (rcdSteps log.length s).busy = true ∧
    rcdStep (rcdSteps log.length s) = rcdSteps log.length s

section
variable {α β : Type} {port : State → List Answer} {p : Parser α} {f : α → Parser β} {Q : α → State → Prop}
  {R : β → State → Prop} {s t : State}

theorem Reaches.refl (s : State) : Reaches port [] (port s) s s := ⟨rfl, rfl, rfl⟩

theorem Reaches.trans {log log' : List Transaction} {rest rest' : List Answer} {u : State}
    (h : Reaches port log rest s t) (h' : Reaches port log' rest' t u) : Reaches port (log ++ log') rest' s u := by
  obtain ⟨-, hlog, hcount⟩ := h
  obtain ⟨hrest, hlog', hcount'⟩ := h'
  refine ⟨hrest, by rw [hlog', hlog, List.reverse_append, List.append_assoc], ?_⟩
  rw [hcount', hcount, List.countP_append, Nat.add_assoc]

theorem follows_give {v : α} (hb : s.busy = true) (hQ : Q v s) : Follows port (pGive v) Q s :=
  ⟨.refl s, rfl, hb, hQ⟩

/-- What follows the transactions `log` follows from where they lead. -/
theorem follows_after {p' : Parser α} {log : List Transaction} {rest : List Answer}
    (hreach : Reaches port log rest s (rcdSteps log.length s)) (hanswered : log.countP answered = log.length)
    (hp : Follows port p Q (rcdSteps log.length s)) (hp' : p' (port s) = (p rest).after log) :
    Follows port p' Q s := by
  unfold Follows at hp ⊢
  rw [hreach.1] at hp
  rw [hp']
  cases hres : p rest <;> simp only [hres, Parsed.after, List.length_append, rcdSteps_add] at hp ⊢
  case got =>
    obtain ⟨hreach', hanswered', hv⟩ := hp
    exact ⟨hreach.trans hreach', by rw [List.countP_append, hanswered, hanswered'], hv⟩
  case error =>
    obtain ⟨u, hu, hreach'⟩ := hp
    exact ⟨u, hu, hreach.trans hreach'⟩
  case waiting => exact ⟨hreach.trans hp.1, hp.2⟩

/-- One part of the pseudocode after another. -/
theorem follows_then (hp : Follows port p Q s) (hf : ∀ v t, t.busy = true → Q v t → Follows port (f v) R t) :
    Follows port (pThen p f) R s := by
  unfold Follows at hp
  cases hres : p (port s) <;> simp only [hres] at hp
  case got v log rest =>
    obtain ⟨hreach, hanswered, hb, hQ⟩ := hp
    exact follows_after hreach hanswered (hf v _ hb hQ) (by simp only [pThen, hres])
  case error => simpa only [Follows, pThen, hres] using hp
  case waiting => simpa only [Follows, pThen, hres] using hp

/-- A value made of the value read. -/
theorem follows_map {g : α → β} (hp : Follows port p Q s) (hg : ∀ v t, Q v t → R (g v) t) :
    Follows port (pThen p fun v => pGive (g v)) R s :=
  follows_then hp fun v t hb hQ => follows_give hb (hg v t hQ)

end

section
variable {α : Type} {f : Bool → Parser α} {Q : α → State → Prop} {s u : State}

/-- The ports and the count are those of before, as after every update that follows from an answer. -/
def CarriesOn (s t : State) : Prop :=
  t.bins = s.bins ∧ t.portLog = s.portLog ∧ t.work.count = s.work.count

theorem follows_raise {c : ErrorCode} {se : SyntaxElement} {idx : Nat} :
    Follows State.bins (pRaise c se idx) Q (raiseDecode c se idx u) :=
  ⟨u, rfl, by simp, by simp, by simp⟩

/-- A bin of the pseudocode is a step that requests it; what follows is the pseudocode's from where the step ends. -/
theorem follows_bin {o : CabacOperands} {se : SyntaxElement} {binIdx idx gt1 eq1 : Nat} {bypass : Bool}
    {k : Bool → State → State} (hb : s.busy = true) (hmaxN : s.work.maxN = o.maxN) (hcat : s.work.cat = o.cat)
    (hcounters : if se = .coeffAbsLevelMinus1 then s.work.gt1 = gt1 ∧ s.work.eq1 = eq1 else gt1 = 0 ∧ eq1 = 0)
    (hstep : rcdStep s = binRead se binIdx bypass idx k s)
    (hk : ∀ b rest log u, u = { s with
        bins := rest, portLog := log, work := { s.work with count := s.work.count + 1 } } →
      CarriesOn u (k b u) ∧ Follows State.bins (f b) Q (k b u)) :
    Follows State.bins (pThen (pBin o se binIdx bypass idx gt1 eq1) f) Q s := by
  have hreq : binRequest se binIdx bypass idx s =
      { se := BitVec.ofNat 4 se.code, binIdx := BitVec.ofNat 7 binIdx, bypass := bypass, cat := o.cat
        maxN := o.maxN, idx := BitVec.ofNat 6 idx, gt1 := BitVec.ofNat 7 gt1, eq1 := BitVec.ofNat 7 eq1 } := by
    unfold binRequest
    rw [hmaxN, hcat]
    split at hcounters
    · rw [if_pos ‹_›, if_pos ‹_›, hcounters.1, hcounters.2]
    · rw [if_neg ‹_›, if_neg ‹_›, hcounters.1, hcounters.2]
      rfl
  obtain ⟨hbins, ht⟩ | ⟨rest, hbins, ht⟩ | ⟨b, rest, hbins, ht⟩ := binRead_cases se binIdx bypass idx k s <;>
    rw [← hstep] at ht
  · rw [Follows, pThen, pBin, hbins]
    exact ⟨⟨hbins, rfl, rfl⟩, hb, ht⟩
  · rw [Follows, pThen, pBin, hbins]
    exact ⟨_, ht, rfl, congrArg (.binRead · .eos :: s.portLog) hreq, rfl⟩
  · obtain ⟨⟨hcbins, hclog, hccount⟩, hf⟩ := hk b rest (.binRead (binRequest se binIdx bypass idx s) (.bit b) :: s.portLog)
      _ rfl
    rw [← ht] at hcbins hclog hccount hf
    rw [hreq] at hclog
    refine follows_after (log := [_]) ⟨hcbins, hclog, hccount⟩ rfl hf ?_
    rw [pThen, pBin, hbins]
    rfl

end

/-! ### The magnitude of a level -/

/-- The operands that the requests of the executing CABAC_BLOCK repeat (R59). -/
def State.operands (s : State) : CabacOperands := { maxN := s.work.maxN, cat := s.work.cat }

/-- BUSY at the same place of the level walk: only the registers of the magnitude may differ (R155 to R159). -/
structure SameWalk (s t : State) : Prop where
  busy : t.busy = true
  maxN : t.work.maxN = s.work.maxN
  cat : t.work.cat = s.work.cat
  i : t.work.i = s.work.i
  gt1 : t.work.gt1 = s.work.gt1
  eq1 : t.work.eq1 = s.work.eq1
  coef : t.coef = s.coef
  sig : t.work.sig = s.work.sig
  numCoeff : t.work.numCoeff = s.work.numCoeff
  cbf : t.work.cbf = s.work.cbf

/-- The magnitude minus one is `v`, and the sign comes next (R159). -/
def AtSign (v : Nat) (s : State) : Prop := s.work.phase = .coeffSign ∧ s.work.absm1 = v

/-- The unary part of the suffix at order `k`, where the powers so far add up to `suffix` (R157). -/
def AtUnary (k suffix : Nat) (s : State) : Prop :=
  s.work.phase = .absUnary ∧ s.work.k = k ∧ s.work.binIdx = 14 + k ∧ s.work.absm1 = 14 + suffix

/-- `p` prefix bins have been 1 (R156). -/
def AtPrefix (p : Nat) (s : State) : Prop :=
  if p < 14 then s.work.phase = .absPrefix ∧ s.work.binIdx = p ∧ s.work.absm1 = p else AtUnary 0 0 s

/-- `k` bins of the suffix are left, the next of index `binIdx` (R157). -/
def AtBits (k binIdx suffix : Nat) (s : State) : Prop :=
  if k = 0 then AtSign (14 + suffix) s
  else s.work.phase = .absBits ∧ s.work.k = k ∧ s.work.binIdx = binIdx ∧ s.work.absm1 = 14 + suffix

section
variable {s t : State}

/-- A bin of the magnitude at the place of `s` in the level walk (R58, R59). -/
theorem follows_absBin {α : Type} {f : Bool → Parser α} {Q : α → State → Prop} {binIdx : Nat} {bypass : Bool}
    {k : Bool → State → State} (h : SameWalk s t) (hbin : t.work.binIdx = binIdx)
    (hstep : rcdStep t = binRead .coeffAbsLevelMinus1 t.work.binIdx bypass t.work.i k t)
    (hk : ∀ b rest log u, u = { t with
        bins := rest, portLog := log, work := { t.work with count := t.work.count + 1 } } →
      SameWalk s u → CarriesOn u (k b u) ∧ Follows State.bins (f b) Q (k b u)) :
    Follows State.bins
      (pThen (pBin s.operands .coeffAbsLevelMinus1 binIdx bypass s.work.i s.work.gt1 s.work.eq1) f) Q t := by
  subst hbin
  rw [← h.i]
  exact follows_bin h.busy h.maxN h.cat ⟨h.gt1, h.eq1⟩ hstep fun b rest log u hu => hk b rest log u hu (hu ▸ { h with })

theorem follows_absPrefix {n p : Nat} (hn : n + p = 14) (h : SameWalk s t) (hp : AtPrefix p t) :
    Follows State.bins (pAbsPrefix s.operands s.work.i s.work.gt1 s.work.eq1 n p)
      (fun v u => SameWalk s u ∧ if v < 14 then AtSign v u else AtUnary 0 0 u) t := by
  induction n generalizing p t with
  | zero =>
    obtain rfl : p = 14 := by omega
    exact follows_give h.busy ⟨h, hp⟩
  | succ n ih =>
    have hlt : p < 14 := by omega
    obtain ⟨hphase, hbin, habs⟩ : t.work.phase = .absPrefix ∧ t.work.binIdx = p ∧ t.work.absm1 = p := by
      simpa only [AtPrefix, hlt, if_true] using hp
    refine follows_absBin h hbin (by simp only [rcdStep, h.busy, hphase, if_true]; rfl) ?_
    rintro b rest log u hu hwalk
    cases b with
    | false =>
      refine ⟨⟨rfl, rfl, rfl⟩, follows_give hwalk.busy ⟨{ hwalk with }, ?_⟩⟩
      rw [if_pos hlt]
      exact ⟨rfl, by rw [← habs, hu]; rfl⟩
    | true =>
      simp only [if_true, hu, hbin, habs]
      split
      next hmore =>
        refine ⟨⟨rfl, rfl, rfl⟩, ih (by omega) { h with } ?_⟩
        rw [AtPrefix, if_pos hmore]
        exact ⟨hphase, rfl, rfl⟩
      next hdone =>
        obtain rfl : p = 13 := by omega
        exact ⟨⟨rfl, rfl, rfl⟩, ih (by omega) { h with } ⟨rfl, rfl, rfl, rfl⟩⟩

theorem follows_absUnary {n k suffix : Nat} (hn : n + k = Config.eg0KMax) (h : SameWalk s t)
    (hp : AtUnary k suffix t) :
    Follows State.bins (pAbsUnary s.operands s.work.i s.work.gt1 s.work.eq1 n k suffix)
      (fun v u => SameWalk s u ∧ AtBits v.1 (14 + v.1 + 1) v.2 u) t := by
  induction n using Nat.strong_induction_on generalizing k suffix t with
  | _ n ih =>
    obtain ⟨hphase, hk, hbin, habs⟩ := hp
    rw [pAbsUnary.eq_def]
    refine follows_absBin h hbin (by simp only [rcdStep, h.busy, hphase, if_true]; rfl) ?_
    rintro b rest log u rfl hwalk
    cases b with
    | false =>
      simp only [Bool.false_eq_true, if_false, hk]
      split
      next hzero =>
        refine ⟨⟨rfl, rfl, rfl⟩, follows_give hwalk.busy ⟨{ h with }, ?_⟩⟩
        rw [AtBits, if_pos hzero]
        exact ⟨rfl, habs⟩
      next hbits =>
        refine ⟨⟨rfl, rfl, rfl⟩, follows_give hwalk.busy ⟨{ h with }, ?_⟩⟩
        rw [AtBits, if_neg hbits]
        exact ⟨rfl, rfl, congrArg (· + 1) hbin, habs⟩
    | true =>
      simp only [if_true, hk, hbin, habs]
      cases n with
      | zero =>
        rw [if_pos (by omega)]
        exact ⟨⟨by simp, by simp, by simp⟩, h.i ▸ follows_raise⟩
      | succ m =>
        rw [if_neg (by omega)]
        refine ⟨⟨rfl, rfl, rfl⟩, ih m m.lt_succ_self (by omega) { h with } ⟨hphase, rfl, ?_, ?_⟩⟩
        · exact Nat.add_assoc 14 k 1
        · exact Nat.add_assoc 14 suffix (2 ^ k)

theorem follows_absBits {k binIdx suffix : Nat} (h : SameWalk s t) (hp : AtBits k binIdx suffix t) :
    Follows State.bins (pAbsBits s.operands s.work.i s.work.gt1 s.work.eq1 k binIdx suffix)
      (fun v u => SameWalk s u ∧ AtSign (14 + v) u) t := by
  induction k generalizing binIdx suffix t with
  | zero => exact follows_give h.busy ⟨h, hp⟩
  | succ k ih =>
    obtain ⟨hphase, hk, hbin, habs⟩ : t.work.phase = .absBits ∧ t.work.k = k + 1 ∧ t.work.binIdx = binIdx ∧
      t.work.absm1 = 14 + suffix := by simpa only [AtBits, Nat.succ_ne_zero, if_false] using hp
    refine follows_absBin h hbin (by simp only [rcdStep, h.busy, hphase, if_true]; rfl) ?_
    rintro b rest log u rfl hwalk
    simp only [hk, habs, Nat.add_sub_cancel]
    split
    next hlast =>
      refine ⟨⟨rfl, rfl, rfl⟩, ih { h with } ?_⟩
      rw [AtBits, if_pos hlast]
      exact ⟨rfl, by simp [Nat.add_assoc]⟩
    next hmore =>
      refine ⟨⟨rfl, rfl, rfl⟩, ih { h with } ?_⟩
      rw [AtBits, if_neg hmore]
      exact ⟨hphase, rfl, by simp [hbin], by simp [Nat.add_assoc]⟩

theorem follows_absLevelMinus1 (h : SameWalk s t) (hp : AtPrefix 0 t) :
    Follows State.bins (pAbsLevelMinus1 s.operands s.work.i s.work.gt1 s.work.eq1)
      (fun v u => SameWalk s u ∧ AtSign v u) t := by
  refine follows_then (follows_absPrefix rfl h hp) fun p u hb ⟨hu, hpre⟩ => ?_
  split_ifs at hpre ⊢
  · exact follows_give hb ⟨hu, hpre⟩
  · exact follows_then (follows_absUnary rfl hu hpre) fun v w _ ⟨hw, hbits⟩ =>
      follows_map (follows_absBits hw hbits) fun _ _ hx => hx

end

/-! ### The significance map and the level walk -/

/-- The marks of the positions below `n`, from the top down. -/
def marksBelow (sig : Vector Bool 64) : Nat → List Bool
  | 0 => []
  | n + 1 => sig.getD n false :: marksBelow sig n

@[simp] theorem marksBelow_length (sig : Vector Bool 64) (n : Nat) : (marksBelow sig n).length = n := by
  induction n with
  | zero => rfl
  | succ n ih => rw [marksBelow, List.length_cons, ih]

theorem marksBelow_congr {x y : Vector Bool 64} {n : Nat} (h : ∀ k < n, x.getD k false = y.getD k false) :
    marksBelow x n = marksBelow y n := by
  induction n with
  | zero => rfl
  | succ n ih => rw [marksBelow, marksBelow, h n n.lt_succ_self, ih fun k hk => h k (by omega)]

theorem marksBelow_set_self (sig : Vector Bool 64) (n : Nat) (b : Bool) :
    marksBelow (sig.setIfInBounds n b) n = marksBelow sig n :=
  marksBelow_congr fun k hk => by simp [Vector.getD, hk.ne']

theorem marksBelow_set {sig : Vector Bool 64} {n : Nat} (hn : n < 64) (b : Bool) :
    marksBelow (sig.setIfInBounds n b) (n + 1) = b :: marksBelow sig n := by
  rw [marksBelow, marksBelow_set_self]
  congr 1
  simp [Vector.getD, hn]

/-- Marks of 0 count nothing. -/
theorem count_marksBelow {sig : Vector Bool 64} {n m : Nat} (hnm : n ≤ m)
    (h : ∀ k, n ≤ k → k < m → sig.getD k false = false) :
    (marksBelow sig m).count true = (marksBelow sig n).count true := by
  induction m, hnm using Nat.le_induction with
  | base => rfl
  | succ m hnm ih =>
    rw [marksBelow, h m hnm m.lt_succ_self, List.count_cons_of_ne (by decide), ih fun k hk hlt => h k hk (by omega)]

theorem sigCount_eq (sig : Vector Bool 64) (n : Nat) : sigCount sig n = (marksBelow sig n).count true := by
  induction n with
  | zero => rfl
  | succ n ih =>
    rw [marksBelow, List.count_cons, ← ih, sigCount, sigCount, List.take_add_one, List.count_append]
    by_cases hn : n < 64 <;> simp [hn, Vector.getD, List.count_singleton]

/-- From `s` the level walk has ended in `t`, having put the levels `vs`, given from the top position down, in COEF
(R155, R159). -/
structure Walked (s : State) (vs : List Int) (t : State) : Prop where
  phase : t.work.phase = .cabacFinish
  maxN : t.work.maxN = s.work.maxN
  sig : t.work.sig = s.work.sig
  numCoeff : t.work.numCoeff = s.work.numCoeff
  cbf : t.work.cbf = s.work.cbf
  coef : ∀ (k : Nat) (h : k < 64), t.coef[k] = if k < vs.length then coefWord (vs.reverse.getD k 0) else s.coef[k]

section
variable {s t u : State}

/-- One more level, at the top. -/
theorem Walked.cons {v : Int} {vs : List Int} {m : Nat} (h : Walked u vs t) (hvs : vs.length = m)
    (hcoef : u.coef = s.coef.setIfInBounds m (coefWord v)) (hmaxN : u.work.maxN = s.work.maxN)
    (hsig : u.work.sig = s.work.sig) (hnum : u.work.numCoeff = s.work.numCoeff) (hcbf : u.work.cbf = s.work.cbf) :
    Walked s (v :: vs) t := by
  refine ⟨h.phase, h.maxN.trans hmaxN, h.sig.trans hsig, h.numCoeff.trans hnum, h.cbf.trans hcbf, fun k hk => ?_⟩
  subst hvs
  simp only [h.coef k hk, hcoef, List.length_cons, List.reverse_cons, Vector.getElem_setIfInBounds]
  obtain hlt | rfl | hgt := Nat.lt_trichotomy k vs.length
  · rw [if_pos hlt, if_pos (by omega), List.getD_append _ _ _ _ (by simpa using hlt)]
  · rw [if_neg (lt_irrefl _), if_pos rfl, if_pos (Nat.lt_succ_self _), List.getD_append_right _ _ _ _ (by simp)]
    simp
  · rw [if_neg (by omega), if_neg (by omega), if_neg (by omega)]

theorem levelWalk_carriesOn (n : Nat) (s : State) : CarriesOn s (levelWalk n s) := by
  induction n generalizing s with
  | zero => exact ⟨rfl, rfl, rfl⟩
  | succ n ih =>
    unfold levelWalk
    split
    · exact ⟨rfl, rfl, rfl⟩
    · exact ih _

theorem nextScan_carriesOn (s : State) : CarriesOn s (nextScan s) := by
  unfold nextScan
  split
  · exact ⟨rfl, rfl, rfl⟩
  · obtain ⟨hbins, hlog, hcount⟩ := levelWalk_carriesOn s.work.numCoeff
      { s with work := { s.work with sig := scannedSig s, gt1 := 0, eq1 := 0 } }
    exact ⟨hbins, hlog, hcount⟩

/-- Where the level at the place of `s`, of magnitude `v + 1` and with the sign bin `b`, is in COEF and counted (R159,
R160). -/
structure Signed (s : State) (v : Nat) (b : Bool) (x : State) : Prop where
  busy : x.busy = true
  maxN : x.work.maxN = s.work.maxN
  cat : x.work.cat = s.work.cat
  coef : x.coef = s.coef.setIfInBounds s.work.i (coefWord (signedLevel v b))
  sig : x.work.sig = s.work.sig
  numCoeff : x.work.numCoeff = s.work.numCoeff
  cbf : x.work.cbf = s.work.cbf
  gt1 : x.work.gt1 = if v = 0 then s.work.gt1 else s.work.gt1 + 1
  eq1 : x.work.eq1 = if v = 0 then s.work.eq1 + 1 else s.work.eq1

/-- After the sign bin the level walk goes on below. -/
theorem follows_sign {α : Type} {f : Bool → Parser α} {Q : α → State → Prop} {v : Nat} (h : SameWalk s u)
    (hv : AtSign v u) (hf : ∀ b x, Signed s v b x → Follows State.bins (f b) Q (levelWalk s.work.i x)) :
    Follows State.bins (pThen (pBin s.operands .coeffSignFlag 0 true s.work.i 0 0) f) Q u := by
  obtain ⟨hphase, habs⟩ := hv
  rw [← h.i]
  refine follows_bin h.busy h.maxN h.cat ⟨rfl, rfl⟩ (by simp only [rcdStep, h.busy, hphase, if_true]; rfl) ?_
  rintro b rest log w rfl
  simp only [habs]
  refine ⟨?_, h.i ▸ hf b _ ⟨h.busy, h.maxN, h.cat, ?_, h.sig, h.numCoeff, h.cbf, ?_, ?_⟩⟩
  · exact levelWalk_carriesOn _ _
  · rw [h.coef]
  · rw [h.gt1]
  · rw [h.eq1]

/-- The level walk below position `n` (R155, R159, R160). -/
theorem follows_walk (n : Nat) (hb : s.busy = true) :
    Follows State.bins (pWalk s.operands (marksBelow s.work.sig n) s.work.gt1 s.work.eq1)
      (fun vs t => vs.length = n ∧ Walked s vs t) (levelWalk n s) := by
  induction n generalizing s with
  | zero => exact follows_give hb ⟨rfl, rfl, rfl, rfl, rfl, rfl, fun _ _ => rfl⟩
  | succ n ih =>
    rw [marksBelow, levelWalk]
    cases hmark : s.work.sig.getD n false with
    | false =>
      exact follows_map (ih (s := { s with coef := s.coef.setIfInBounds n 0 }) hb) fun vs t ⟨hlen, hw⟩ =>
        ⟨congrArg (· + 1) hlen, hw.cons hlen rfl rfl rfl rfl rfl⟩
    | true =>
      simp only [if_true, pWalk, marksBelow_length]
      refine follows_then (follows_absLevelMinus1 (s := startMagnitude { s with work := { s.work with i := n } })
        ⟨hb, rfl, rfl, rfl, rfl, rfl, rfl, rfl, rfl, rfl⟩ ⟨rfl, rfl, rfl⟩) fun v u _ ⟨hu, hv⟩ => ?_
      refine follows_sign hu hv fun b x hx => ?_
      have hwalk := ih hx.busy
      have hops : x.operands = s.operands := by
        rw [State.operands, hx.maxN, hx.cat]
        rfl
      rw [hops, hx.sig, hx.gt1, hx.eq1] at hwalk
      refine follows_map (Q := fun vs t => vs.length = n ∧ Walked x vs t) ?_ fun vs t ⟨hlen, hw⟩ =>
        ⟨congrArg (· + 1) hlen, hw.cons hlen hx.coef hx.maxN hx.sig hx.numCoeff hx.cbf⟩
      by_cases h0 : v = 0
      · rw [if_pos h0, if_pos h0] at hwalk
        rw [if_pos h0]
        exact hwalk
      · rw [if_neg h0, if_neg h0] at hwalk
        rw [if_neg h0]
        exact hwalk

/-- The significance map is read: its marks are `ms` from the top position down, and 0 from there to maxN (R152 to R154),
and the counters of the level walk are 0 (R160). -/
structure MapRead (o : CabacOperands) (ms : List Bool) (u : State) : Prop where
  busy : u.busy = true
  operands : u.operands = o
  numCoeff : u.work.numCoeff = ms.length
  length_le : ms.length ≤ o.maxN.toNat
  marks : marksBelow u.work.sig ms.length = ms
  above : ∀ k, ms.length ≤ k → k < o.maxN.toNat → u.work.sig.getD k false = false
  gt1 : u.work.gt1 = 0
  eq1 : u.work.eq1 = 0
  cbf : u.work.cbf = true

/-- The level walk has begun on the map with the marks `ms`. -/
def WalkBegun (o : CabacOperands) (ms : List Bool) (t : State) : Prop :=
  ∃ u, t = levelWalk ms.length u ∧ MapRead o ms u

theorem scannedSig_getD {k : Nat} (hk : k < 64) : (scannedSig s).getD k false =
    if k + 1 = s.work.numCoeff then true
    else if s.work.numCoeff ≤ k ∧ k < s.maxNum then false else s.work.sig.getD k false := by
  simp [scannedSig, Vector.getD, hk]

/-- The end of the scan at position `n` marks it, and none above (R154). -/
theorem endScan_walkBegun {n : Nat} (hb : s.busy = true) (hcbf : s.work.cbf = true) (hnum : s.work.numCoeff = n + 1)
    (hn : n < s.maxNum) (hmax : s.maxNum ≤ 64) :
    WalkBegun s.operands (true :: marksBelow s.work.sig n) (endScan s) := by
  have hlen : (true :: marksBelow s.work.sig n).length = n + 1 := congrArg (· + 1) (marksBelow_length _ n)
  have hget : ∀ k < 64, _ := fun k hk => scannedSig_getD (s := s) (k := k) hk
  rw [endScan_eq, WalkBegun, hlen, ← hnum]
  generalize scannedSig s = x at hget ⊢
  refine ⟨_, rfl, hb, rfl, hnum.trans hlen.symm, hlen ▸ hn, ?_, fun k hk hlt => ?_, rfl, rfl, hcbf⟩
  · rw [hlen, marksBelow]
    dsimp only
    rw [hget n (by omega), if_pos hnum.symm]
    refine congrArg _ (marksBelow_congr fun k hk => ?_)
    rw [hget k (by omega), if_neg (by omega), if_neg (by omega)]
  · rw [hlen] at hk
    have hlt : k < s.maxNum := hlt
    dsimp only
    rw [hget k (by omega), if_neg (by omega), if_pos ⟨by omega, hlt⟩]

theorem levelWalk_busy (n : Nat) (s : State) : (levelWalk n s).busy = s.busy := by
  induction n generalizing s with
  | zero => rfl
  | succ n ih =>
    unfold levelWalk
    split
    · rfl
    · exact ih _

theorem WalkBegun.busy {o : CabacOperands} {ms : List Bool} (h : WalkBegun o ms t) : t.busy = true := by
  obtain ⟨u, rfl, hu⟩ := h
  exact (levelWalk_busy _ u).trans hu.busy

/-- The scan at the next position after that of `s`, whose mark is `b` (R152, R153). -/
structure ScanNext (s : State) (b : Bool) (x : State) : Prop where
  busy : x.busy = true
  operands : x.operands = s.operands
  cbf : x.work.cbf = s.work.cbf
  numCoeff : x.work.numCoeff = s.work.numCoeff
  i : x.work.i = s.work.i + 1
  sig : x.work.sig = s.work.sig.setIfInBounds s.work.i b

/-- The significance scan from position `i` on, `n` positions being left below the last one (R152 to R154). -/
theorem follows_scan {n : Nat} (hb : s.busy = true) (hcbf : s.work.cbf = true) (hnum : s.work.numCoeff = s.maxNum)
    (hn : s.work.i + n + 1 = s.maxNum) (hmax : s.maxNum ≤ 64) :
    Follows State.bins (pScan s.operands n s.work.i)
      (fun ms t => WalkBegun s.operands (ms.reverse ++ marksBelow s.work.sig s.work.i) t) (nextScan s) := by
  induction n generalizing s with
  | zero =>
    rw [nextScan, if_neg (by omega)]
    have hend := endScan_walkBegun (n := s.work.i) hb hcbf (by omega) (by omega) hmax
    exact follows_give hend.busy hend
  | succ n ih =>
    have hnext : ∀ b x, ScanNext s b x → Follows State.bins
        (pThen (pScan s.operands n (s.work.i + 1)) fun ms => pGive (b :: ms))
        (fun ms t => WalkBegun s.operands (ms.reverse ++ marksBelow s.work.sig s.work.i) t) (nextScan x) := by
      intro b x hx
      have hmaxx : x.maxNum = s.maxNum := congrArg (·.maxN.toNat) hx.operands
      have h := ih hx.busy (hx.cbf.trans hcbf) (by rw [hx.numCoeff, hnum, hmaxx]) (by rw [hx.i]; omega) (by omega)
      rw [hx.operands, hx.i, hx.sig, marksBelow_set (by omega)] at h
      exact follows_map h fun ms t ht => by simpa using ht
    rw [nextScan, if_pos (by omega)]
    refine follows_bin hb rfl rfl ⟨rfl, rfl⟩ (by simp only [rcdStep, toPhase_busy, toPhase_work, hb, if_true]; rfl) ?_
    rintro sig rest log u rfl
    cases sig with
    | false =>
      simp only [Bool.false_eq_true, if_false]
      exact ⟨nextScan_carriesOn _, hnext false _ ⟨hb, rfl, rfl, rfl, rfl, rfl⟩⟩
    | true =>
      simp only [if_true]
      refine ⟨⟨rfl, rfl, rfl⟩, follows_bin hb rfl rfl ⟨rfl, rfl⟩
        (by simp only [rcdStep, toPhase_busy, toPhase_work, hb, if_true]; rfl) ?_⟩
      rintro last rest' log' u rfl
      refine ⟨nextScan_carriesOn _, ?_⟩
      cases last with
      | false =>
        simp only [Bool.false_eq_true, if_false]
        exact hnext true _ ⟨hb, rfl, rfl, rfl, rfl, rfl⟩
      | true =>
        simp only [if_true]
        rw [nextScan, if_neg (by simp)]
        have hend := endScan_walkBegun (n := s.work.i) (s := { s with
          bins := rest', portLog := log'
          work := { s.work with
            phase := .lastFlag, sig := s.work.sig.setIfInBounds s.work.i true, count := s.work.count + 1 + 1
            numCoeff := s.work.i + 1, i := s.work.i + 1 } }) hb hcbf rfl (by change _ < s.maxNum; omega) hmax
        rw [marksBelow_set_self] at hend
        exact follows_give hend.busy hend

end

/-! ### The block -/

@[simp] theorem padBlock_length {n : Nat} {cs : List Int} (h : cs.length ≤ n) : (padBlock n cs).length = n := by
  rw [padBlock, List.length_append, List.length_replicate]
  omega

/-- An entry of a padded block. -/
theorem padBlock_getD (n : Nat) (cs : List Int) (k : Nat) :
    (padBlock n cs).getD k 0 = if k < cs.length then cs.getD k 0 else 0 := by
  unfold padBlock
  split
  next h => exact List.getD_append _ _ _ _ h
  next h =>
    rw [List.getD_append_right _ _ _ _ (by omega)]
    by_cases hk : k - cs.length < n - cs.length <;> simp [List.getD_eq_getElem?_getD, hk]

/-- All bins are read, and finishing leaves the block `b` (R154, R162). -/
structure BlockRead (o : CabacOperands) (b : Block) (t : State) : Prop where
  phase : t.work.phase = .cabacFinish
  maxN : t.work.maxN = o.maxN
  numCoeff : t.work.numCoeff = b.numCoeff
  cbf : t.work.cbf = b.cbf
  tc : sigCount t.work.sig o.maxN.toNat = b.tc
  t1 : b.t1 = 0
  tz : b.tz = b.numCoeff - b.tc
  length : b.coefs.length = o.maxN.toNat
  coef : ∀ (k : Nat) (h : k < 64), k < o.maxN.toNat →
    (zeroRange b.numCoeff o.maxN.toNat t.coef)[k] = coefWord (b.coefs.getD k 0)

section
variable {o : CabacOperands} {s t : State}

/-- The block of a map with the marks `marks` and the levels `vs`, given from the top down (R155, R162). -/
theorem blockRead_of_walked {marks : List Bool} {vs : List Int} {u : State} (hu : MapRead o marks.reverse u)
    (hlen : vs.length = marks.reverse.length) (ht : Walked u vs t) :
    BlockRead o
      { coefs := padBlock o.maxN.toNat vs.reverse, tc := marks.count true, t1 := 0
        tz := marks.length - marks.count true, numCoeff := marks.length, cbf := true } t := by
  have hle := hu.length_le
  have hmarks : marks.reverse.length = marks.length := List.length_reverse
  refine ⟨ht.phase, ht.maxN.trans (congrArg CabacOperands.maxN hu.operands), ?_, ht.cbf.trans hu.cbf, ?_, rfl, rfl,
    padBlock_length ?_, fun k hk hlt => ?_⟩
  · rw [ht.numCoeff, hu.numCoeff, hmarks]
  · rw [ht.sig, sigCount_eq, count_marksBelow hle hu.above, hu.marks, List.count_reverse]
  · rw [List.length_reverse]
    omega
  · rw [zeroRange_get, padBlock_getD, List.length_reverse, ht.coef k hk]
    dsimp only
    by_cases h : k < vs.length
    · rw [if_neg (by omega), if_pos h, if_pos h]
    · rw [if_pos ⟨by omega, hlt⟩, if_neg h]
      rfl

/-- The scan and the level walk of a coded block (R150). -/
theorem follows_codedBlock (ho : s.operands = o) (hb : s.busy = true) (hcbf : s.work.cbf = true)
    (hlegal : cabacLegal o.maxN = true) :
    Follows State.bins
      (pThen (pScan o (o.maxN.toNat - 1) 0) fun marks =>
        pThen (pWalk o marks.reverse 0 0) fun vs =>
        pGive
          { coefs := padBlock o.maxN.toNat vs.reverse, tc := marks.count true, t1 := 0
            tz := marks.length - marks.count true, numCoeff := marks.length, cbf := true })
      (BlockRead o) (startScan s) := by
  subst ho
  have hmax := cabacLegal_bounds hlegal
  refine follows_then (follows_scan (s := { s with work := { s.work with numCoeff := s.maxNum, i := 0 } })
    (n := s.operands.maxN.toNat - 1) hb hcbf rfl ?_ hmax.2.1) fun marks t _ ⟨u, ht, hu⟩ => ?_
  · simp only [State.maxNum, State.operands] at hmax ⊢
    omega
  · subst ht
    rw [marksBelow, List.append_nil] at hu ⊢
    have hwalk := follows_walk marks.reverse.length hu.busy
    rw [hu.operands, hu.marks, hu.gt1, hu.eq1] at hwalk
    exact follows_map hwalk fun vs t ⟨hlen, ht⟩ => blockRead_of_walked hu hlen ht

/-- A value known without reading. -/
theorem follows_known {α β : Type} {port : State → List Answer} {f : α → Parser β} {v : α} {Q : β → State → Prop}
    (h : Follows port (f v) Q s) : Follows port (pThen (pGive v) f) Q s :=
  follows_after (log := []) (.refl s) rfl h rfl

/-- A block that is not coded (R151). -/
theorem blockRead_of_notCoded (hphase : t.work.phase = .cabacFinish) (hmaxN : t.work.maxN = o.maxN)
    (hnum : t.work.numCoeff = 0) (hcbf : t.work.cbf = false) (hsig : t.work.sig = Vector.replicate 64 false) :
    BlockRead o { coefs := padBlock o.maxN.toNat [], tc := 0, t1 := 0, tz := 0, numCoeff := 0, cbf := false } t := by
  refine ⟨hphase, hmaxN, hnum, hcbf, ?_, rfl, rfl, padBlock_length (Nat.zero_le _), fun k hk hlt => ?_⟩
  · rw [hsig, sigCount_eq, count_marksBelow (Nat.zero_le _) fun k _ _ => ?_]
    · rfl
    · by_cases hk : k < 64 <;> simp [Vector.getD, hk]
  · rw [zeroRange_get, padBlock_getD, if_pos ⟨Nat.zero_le _, hlt⟩]
    rfl

/-- The RCD follows the pseudocode of CABAC_BLOCK from its start on (R150, R151). -/
theorem follows_cabac (ho : s.operands = o) (hb : s.busy = true) (hlegal : cabacLegal o.maxN = true) :
    Follows State.bins (pCabac o) (BlockRead o) (startCabac s) := by
  subst ho
  unfold pCabac pCodedBlockFlag startCabac
  by_cases h64 : s.maxNum = 64
  · rw [if_pos h64, if_pos (show s.operands.maxN.toNat = 64 from h64)]
    exact follows_known (follows_codedBlock rfl hb rfl hlegal)
  · rw [if_neg h64, if_neg (show ¬ s.operands.maxN.toNat = 64 from h64)]
    refine follows_bin hb rfl rfl ⟨rfl, rfl⟩ (by simp only [rcdStep, toPhase_busy, toPhase_work, hb, if_true]; rfl) ?_
    rintro cbf rest log u rfl
    cases cbf with
    | true =>
      simp only [if_true]
      exact ⟨nextScan_carriesOn _, follows_codedBlock rfl hb rfl hlegal⟩
    | false =>
      simp only [Bool.false_eq_true, if_false]
      exact ⟨⟨rfl, rfl, rfl⟩, follows_give hb (blockRead_of_notCoded rfl rfl rfl rfl rfl)⟩

theorem startCabac_carriesOn (s : State) : CarriesOn s (startCabac s) := by
  unfold startCabac
  split
  · exact nextScan_carriesOn _
  · exact ⟨rfl, rfl, rfl⟩

/-- A command still BUSY after a run of steps was BUSY before, and has written none of its outcome. -/
theorem rcdSteps_keepsOutcome {n : Nat} (h : (rcdSteps n s).busy = true) :
    s.busy = true ∧ KeepsOutcome s (rcdSteps n s) := by
  induction n generalizing s with
  | zero => exact ⟨h, rfl, rfl, rfl, rfl, rfl, rfl, rfl, rfl, rfl, rfl, rfl, rfl⟩
  | succ n ih =>
    obtain ⟨hb', h'⟩ := ih h
    obtain ⟨hb, h, -⟩ := rcdStep_keepsOutcome hb'
    exact ⟨hb, h'.done.trans h.done, h'.err.trans h.err, h'.errCode.trans h.errCode, h'.errSe.trans h.errSe,
      h'.errIdx.trans h.errIdx, h'.resTc.trans h.resTc, h'.resT1.trans h.resT1, h'.resTz.trans h.resTz,
      h'.resNumCoeff.trans h.resNumCoeff, h'.resCbf.trans h.resCbf, h'.resCount.trans h.resCount,
      h'.draws.trans h.draws⟩

/-- A legal command in a Ready state with no event to come is accepted and runs on alone (R182, R251). -/
theorem exec_ready {i : Instr} (hs : s.Ready) (henv : s.env = []) (hwf : i.wellFormed = true) :
    exec i s = .next (runOn (accepted i s)) := by
  obtain ⟨hb, he, -⟩ := hs
  have henv' : (accepted i s).env = [] := (accepted_keepsControl i s).env.trans henv
  obtain ⟨hdrop, -⟩ | ⟨-, -, hwf', -⟩ | ⟨-, -, -, ht⟩ := exec_cases (exec_eq i s)
  · simp [hb, he] at hdrop
  · simp [hwf] at hwf'
  · rw [exec_eq, ht, proceed, henv', List.isEmpty_nil, if_pos rfl]

theorem rcdStep_of_cabacFinish (hb : s.busy = true) (hp : s.work.phase = .cabacFinish) :
    rcdStep s = cabacFinishStep s := by
  simp only [rcdStep, hb, hp, if_true]

/-- An accepted CABAC_BLOCK follows its pseudocode on the answers of the bin port. -/
theorem accepted_follows {maxN : BitVec 7} (cat : BitVec 3) (s : State) (hlegal : cabacLegal maxN = true) :
    Follows State.bins (pCabac ⟨maxN, cat⟩) (BlockRead ⟨maxN, cat⟩) (accepted (.cabacBlock maxN cat) s) := by
  refine follows_cabac ?_ rfl hlegal
  simp only [State.operands, latch_maxN, latch_cat, encode, maxNField_cmd32, catField_cmd32]

/-- A run that reaches the last phase of CABAC_BLOCK finishes the block and stops. -/
theorem runOn_of_cabacFinish {n : Nat} (hb : (rcdSteps n s).busy = true)
    (hp : (rcdSteps n s).work.phase = .cabacFinish) : runOn s = cabacFinishStep (rcdSteps n s) := by
  have hsteps : rcdSteps (n + 1) s = cabacFinishStep (rcdSteps n s) := by
    rw [rcdSteps_add, rcdSteps_succ, rcdSteps_zero, rcdStep_of_cabacFinish hb hp]
  rw [← hsteps]
  refine runOn_eq_of_fixed ?_
  rw [hsteps]
  exact rcdStep_of_not_busy rfl

/-- From a state where the block has been read, its completion writes the block and the registers of R162. -/
theorem completed_cabacFinishStep {maxN : BitVec 7} {cat : BitVec 3} {b : Block} {log : List Transaction} {u : State}
    (hframe : CommandFrame (.cabacBlock maxN cat) maxN.toNat s (cabacFinishStep u)) (hs : s.Ready)
    (hread : BlockRead ⟨maxN, cat⟩ b u) (herr : u.err = s.err) (hcode : u.errCode = s.errCode)
    (hse : u.errSe = s.errSe) (hidx : u.errIdx = s.errIdx) (hcount : u.work.count = log.length)
    (hlog : u.portLog = log.reverse ++ s.portLog) :
    Completed (.cabacBlock maxN cat) maxN.toNat b log s (cabacFinishStep u) := by
  obtain ⟨-, -, -, -, -, hcoef, -, hkept⟩ := hframe
  obtain ⟨hovr, hcmd⟩ := hkept hs.1 hs.2.1
  have hmaxN : u.maxNum = maxN.toNat := congrArg BitVec.toNat hread.maxN
  have htc : sigCount u.work.sig u.maxNum = b.tc := hmaxN ▸ hread.tc
  refine ⟨rfl, rfl, herr.trans hs.2.1, hovr, hcode, hse, hidx, hcmd, congrArg (BitVec.ofNat 32) htc,
    congrArg (BitVec.ofNat 32) hread.t1.symm, ?_, congrArg (BitVec.ofNat 32) hread.numCoeff, ?_,
    congrArg (BitVec.ofNat 32) hcount, hlog, hread.length, fun k hk => ⟨fun hlt => ?_, hcoef k hk⟩⟩
  · show BitVec.ofNat 32 (u.work.numCoeff - sigCount u.work.sig u.maxNum) = _
    rw [htc, hread.numCoeff, hread.tz]
  · show (if u.work.cbf then (1 : Word) else 0) = _
    rw [hread.cbf]
  · show (zeroRange u.work.numCoeff u.maxNum u.coef)[k] = _
    simp only [hread.numCoeff, hmaxN]
    exact hread.coef k hk hlt

end

/-- Settles O23: the run of the accepted command follows the pseudocode, one step a bin, and finishes the block. -/
theorem cabacBlockCompletes : Obligations.CabacBlockCompletes := by
  intro maxN cat s b log rest hready henv hlegal hparse
  obtain ⟨hbins, hlog, hcount⟩ : (accepted (.cabacBlock maxN cat) s).bins = s.bins ∧
    (accepted (.cabacBlock maxN cat) s).portLog = s.portLog ∧ (accepted (.cabacBlock maxN cat) s).work.count = 0 :=
    startCabac_carriesOn _
  have hfollows := accepted_follows cat s hlegal
  rw [Follows, hbins, hparse] at hfollows
  obtain ⟨⟨hrest, hlog', hcount'⟩, hanswered, hb, hread⟩ := hfollows
  rw [hlog] at hlog'
  rw [hcount, hanswered, Nat.zero_add] at hcount'
  obtain ⟨hba, hout⟩ := rcdSteps_keepsOutcome hb
  have hstart := ((startOf_progress (.cabacBlock maxN cat) _).keepsOutcome hba).1
  have hexec := exec_ready (i := .cabacBlock maxN cat) hready henv hlegal
  rw [runOn_of_cabacFinish hb hread.phase] at hexec
  obtain ⟨hframe, hbits, -⟩ := cabacBlockFrame maxN cat s _ hexec
  exact ⟨_, hexec, completed_cabacFinishStep hframe hready hread (hout.err.trans hstart.err)
    (hout.errCode.trans hstart.errCode) (hout.errSe.trans hstart.errSe) (hout.errIdx.trans hstart.errIdx) hcount' hlog',
    hrest, hbits⟩

end Sys2Proof.Machine

/-! ## The decoder and the encoder are inverse -/

namespace Sys2Proof.Machine

@[simp] theorem reservedField_cmd32 (cat : BitVec 3) (nC : BitVec 6) (maxN : BitVec 7) (op : BitVec 4) :
    reservedField (cmd32 cat nC maxN op) = 0 := by
  ext k hk
  simp only [reservedField, cmd32, BitVec.getElem_extractLsb', BitVec.getLsbD_append]
  interval_cases k <;> simp

/-- The word of a command decodes to it, whatever its operands (R70, R71, R74). -/
theorem decode_encode (i : Instr) : decode (encode i) = .ok i := by
  cases i with
  | cavlcBlock maxN nC => simp [encode, decode]
  | cabacBlock maxN cat => simp [encode, decode]
  | zeroBlock maxN => simp [encode, decode]

/-- Settles O1: each field of the encoded word is the operand it was made of. -/
theorem decodeOfEncode : Obligations.DecodeOfEncode := decode_encode

/-- Settles O2: a word is its five fields, and the decoder has found the unused ones 0. -/
theorem encodeOfDecode : Obligations.EncodeOfDecode := fun _ _ => encode_of_decode

/-- Settles O4: the decoder is evaluated on the eight words. -/
theorem workedEncodingsDecode : Obligations.WorkedEncodingsDecode := by
  unfold Obligations.WorkedEncodingsDecode
  decide

/-! ## The masks of the opcode table -/

/-- A field that the mask covers is the field of the match value (R73). -/
theorem extractLsb'_of_mask {w m v : Word} {start len : Nat} (h : w &&& m = v)
    (hm : m.extractLsb' start len = BitVec.allOnes len) : w.extractLsb' start len = v.extractLsb' start len := by
  rw [← h, BitVec.extractLsb'_and, hm, BitVec.and_allOnes]

/-- The words of CAVLC_BLOCK, row 1 of the opcode table (R71, R73). -/
theorem decode_cavlcBlock_iff {w : Word} :
    (∃ maxN nC, decode w = .ok (.cavlcBlock maxN nC)) ↔ w &&& 0xFFFE000F#32 = 0x00000001#32 := by
  constructor
  · rintro ⟨maxN, nC, h⟩
    rw [← encode_of_decode h]
    exact Laws.EncodingFixedBits.cavlcBlock maxN nC
  · intro h
    have hop : opField w = 1 := extractLsb'_of_mask h rfl
    have hres : reservedField w = 0 := extractLsb'_of_mask h rfl
    have hcat : catField w = 0 := extractLsb'_of_mask h rfl
    exact ⟨maxNField w, nCField w, by simp [decode, hop, hres, hcat]⟩

/-- The words of CABAC_BLOCK, row 2 of the opcode table (R71, R73). -/
theorem decode_cabacBlock_iff {w : Word} :
    (∃ maxN cat, decode w = .ok (.cabacBlock maxN cat)) ↔ w &&& 0xFFF1F80F#32 = 0x00000002#32 := by
  constructor
  · rintro ⟨maxN, cat, h⟩
    rw [← encode_of_decode h]
    exact Laws.EncodingFixedBits.cabacBlock maxN cat
  · intro h
    have hop : opField w = 2 := extractLsb'_of_mask h rfl
    have hres : reservedField w = 0 := extractLsb'_of_mask h rfl
    have hnC : nCField w = 0 := extractLsb'_of_mask h rfl
    exact ⟨maxNField w, catField w, by simp [decode, hop, hres, hnC]⟩

/-- The words of ZERO_BLOCK, row 3 of the opcode table (R71, R73). -/
theorem decode_zeroBlock_iff {w : Word} :
    (∃ maxN, decode w = .ok (.zeroBlock maxN)) ↔ w &&& 0xFFFFF80F#32 = 0x00000003#32 := by
  constructor
  · rintro ⟨maxN, h⟩
    rw [← encode_of_decode h]
    exact Laws.EncodingFixedBits.zeroBlock maxN
  · intro h
    have hop : opField w = 3 := extractLsb'_of_mask h rfl
    have hres : reservedField w = 0 := extractLsb'_of_mask h rfl
    have hcat : catField w = 0 := extractLsb'_of_mask h rfl
    have hnC : nCField w = 0 := extractLsb'_of_mask h rfl
    exact ⟨maxNField w, by simp [decode, hop, hres, hcat, hnC]⟩

/-- Settles O3: the word of a command has the fixed bits of its row, and the mask of a row covers every field that the
decoder tests on the way to its command. -/
theorem decodeMatchesMaskAndMatch : Obligations.DecodeMatchesMaskAndMatch := fun _ =>
  ⟨decode_cavlcBlock_iff, decode_cabacBlock_iff, decode_zeroBlock_iff⟩

end Sys2Proof.Machine

/-! ## The three checks of a command word -/

namespace Sys2Proof.Machine

open Sys2Proof.Claims

theorem opLegal_iff {w : Word} : opLegal w ↔ opField w = 1 ∨ opField w = 2 ∨ opField w = 3 := Iff.rfl

theorem fieldsZero_iff {w : Word} : fieldsZero w ↔ reservedField w = 0 ∧
    (opField w = 1 ∨ opField w = 3 → catField w = 0) ∧ (opField w = 2 ∨ opField w = 3 → nCField w = 0) :=
  Iff.rfl

theorem cavlcLegal_iff {maxN : BitVec 7} {nC : BitVec 6} : cavlcLegal maxN nC = true ↔
    (maxN.toNat = 4 ∧ nC.toInt = -1) ∨ (maxN.toNat = 8 ∧ nC.toInt = -2) ∨
    ((maxN.toNat = 15 ∨ maxN.toNat = 16) ∧ 0 ≤ nC.toInt ∧ nC.toInt ≤ 31) := by
  have hle : nC.toInt ≤ 31 := Int.le_of_lt_add_one nC.toInt_lt
  simp [cavlcLegal, hle, or_assoc]

theorem operandsLegal_iff {w : Word} : operandsLegal w ↔
    (opField w = 1 → cavlcLegal (maxNField w) (nCField w) = true) ∧
    (opField w = 2 → cabacLegal (maxNField w) = true) ∧ (opField w = 3 → zeroLegal (maxNField w) = true) := by
  rw [cavlcLegal_iff]
  simp only [cabacLegal, zeroLegal, Bool.or_eq_true, Bool.and_eq_true, beq_iff_eq, decide_eq_true_eq, or_assoc]
  rfl

/-- The operand check of the decoded command is that of the word (R75 to R77). -/
theorem operandsLegal_encode {i : Instr} : operandsLegal (encode i) ↔ i.wellFormed = true := by
  cases i with
  | cavlcBlock maxN nC => simp [operandsLegal_iff, encode, Instr.wellFormed]
  | cabacBlock maxN cat => simp [operandsLegal_iff, encode, Instr.wellFormed]
  | zeroBlock maxN => simp [operandsLegal_iff, encode, Instr.wellFormed]

/-- The word of a command passes the first check of R78. -/
theorem opLegal_encode (i : Instr) : opLegal (encode i) := by
  cases i <;> simp [opLegal_iff, encode]

/-- The word of a command passes the second check of R78. -/
theorem fieldsZero_encode (i : Instr) : fieldsZero (encode i) := by
  cases i <;> simp [fieldsZero_iff, encode]

/-- A word that passes the first two checks decodes to a command (R78). -/
theorem decode_of_legal {w : Word} (hop : opLegal w) (hzero : fieldsZero w) : ∃ i, decode w = .ok i := by
  obtain ⟨hres, hcat, hnC⟩ := fieldsZero_iff.mp hzero
  obtain h | h | h := opLegal_iff.mp hop
  · exact ⟨.cavlcBlock (maxNField w) (nCField w), by simp [decode, h, hres, hcat (.inl h)]⟩
  · exact ⟨.cabacBlock (maxNField w) (catField w), by simp [decode, h, hres, hnC (.inl h)]⟩
  · exact ⟨.zeroBlock (maxNField w), by simp [decode, h, hres, hcat (.inr h), hnC (.inr h)]⟩

theorem not_fieldsZero_of_illegal {w : Word} {e : DecodeError} (h : decode w = .illegal e) (hop : opLegal w) :
    ¬ fieldsZero w := fun hzero => by
  obtain ⟨i, hi⟩ := decode_of_legal hop hzero
  rw [h] at hi
  cases hi

/-! ## What the acceptance of a word does -/

theorem writeCmd_of_ok {w : Word} {i : Instr} (h : decode w = .ok i) (s : State) : writeCmd w s = exec i s := by
  rw [writeCmd, h]

theorem writeCmd_of_illegal {w : Word} {e : DecodeError} (h : decode w = .illegal e) (s : State) :
    writeCmd w s = .next (submitIllegal w s) := by
  rw [writeCmd, h]

section
variable {i : Instr} {s : State}

/-- A command with illegal operands is refused in a Ready state (R78, check 3). -/
theorem exec_of_illFormed (hs : s.Ready) (hwf : i.wellFormed = false) :
    exec i s = .next (raiseCommand .illegalOperand { s with cmd := encode i, done := false }) := by
  obtain ⟨hb, he, -⟩ := hs
  simp [exec_eq, submit, hb, he, hwf]

/-- A word that is no command is refused in a Ready state (R72, R73). -/
theorem submitIllegal_of_ready (hs : s.Ready) (w : Word) :
    submitIllegal w s = raiseCommand .illegalCommand { s with cmd := w, done := false } := by
  obtain ⟨hb, he, -⟩ := hs
  simp [submitIllegal, hb, he]

theorem nextScan_busy (s : State) : (nextScan s).busy = s.busy := by
  unfold nextScan
  split
  · rfl
  · exact levelWalk_busy _ _

theorem startOf_busy (i : Instr) (s : State) : (startOf i s).busy = s.busy := by
  cases i with
  | cavlcBlock maxN nC => rfl
  | cabacBlock maxN cat =>
    unfold startOf startCabac
    dsimp only
    split
    · exact nextScan_busy _
    · rfl
  | zeroBlock maxN => rfl

/-- An accepted command is BUSY and has raised no error (R182). -/
theorem accepted_flags (i : Instr) (s : State) : (accepted i s).busy = true ∧ (accepted i s).err = s.err := by
  have hb : (accepted i s).busy = true := startOf_busy i _
  exact ⟨hb, ((startOf_progress i _).keepsOutcome hb).1.err⟩

/-- A legal command is accepted in a Ready state (R182). -/
theorem exec_of_wellFormed (hs : s.Ready) (hwf : i.wellFormed = true) : exec i s = .next (proceed (accepted i s)) := by
  obtain ⟨hb, he, -⟩ := hs
  simp [exec_eq, submit, accepted, hb, he, hwf]

/-- With an event still to come the RCD takes no step of its own accord (log entry 1). -/
theorem proceed_of_events (henv : s.env ≠ []) : proceed s = s := by
  simp [proceed, henv]

end

/-- An acceptance that raises records the error and counts nothing, and touches no port, result or COEF entry (R211). -/
theorem refusedWith_raiseCommand (code : ErrorCode) (w : Word) (s : State) :
    RefusedWith code.code s (raiseCommand code { s with cmd := w, done := false }) :=
  ⟨rfl, rfl, rfl, rfl, rfl, rfl, ⟨rfl, rfl, rfl⟩, ⟨rfl, rfl, rfl, rfl, rfl, rfl⟩⟩

/-- Settles O8: the command is refused, and the refusal is that of R211. -/
theorem illegalOperandsRaise : Obligations.IllegalOperandsRaise := fun i s hs hwf =>
  ⟨_, exec_of_illFormed hs hwf, rfl, rfl, refusedWith_raiseCommand .illegalOperand (encode i) s⟩

/-- Settles O5: the decoder makes the first two checks, the meaning of the decoded command the third. -/
theorem validationOrderAtAcceptance : Obligations.ValidationOrderAtAcceptance := by
  intro w s hs
  cases hw : decode w with
  | illegal e =>
    have hrefused := refusedWith_raiseCommand .illegalCommand w s
    have hzero := not_fieldsZero_of_illegal hw
    rw [writeCmd_of_illegal hw, submitIllegal_of_ready hs]
    exact ⟨_, rfl, fun _ => hrefused, fun _ _ => hrefused, fun hop h => absurd h (hzero hop),
      fun hop h => absurd h (hzero hop)⟩
  | ok i =>
    obtain rfl := encode_of_decode hw
    have hop := opLegal_encode i
    have hzero := fieldsZero_encode i
    rw [writeCmd_of_ok hw]
    cases hwf : i.wellFormed with
    | false =>
      have hillegal : ¬ operandsLegal (encode i) := by simp [operandsLegal_encode, hwf]
      exact ⟨_, exec_of_illFormed hs hwf, fun h => absurd hop h, fun _ h => absurd hzero h,
        fun _ _ _ => refusedWith_raiseCommand .illegalOperand (encode i) s, fun _ _ h => absurd h hillegal⟩
    | true =>
      have hlegal := operandsLegal_encode.mpr hwf
      refine ⟨_, exec_of_wellFormed hs hwf, fun h => absurd hop h, fun _ h => absurd hzero h,
        fun _ _ h => absurd hlegal h, fun _ _ _ henv => ?_⟩
      have henv' : (accepted i s).env ≠ [] := (accepted_keepsControl i s).env ▸ henv
      obtain ⟨-, he, -⟩ := hs
      obtain ⟨hb, hkept⟩ := accepted_flags i s
      rw [proceed_of_events henv']
      exact ⟨hb, hkept.trans he⟩

/-- Settles O60: the event is the write, which `writeCmd` decodes. -/
theorem stepRunsDecodedCommand : Obligations.StepRunsDecodedCommand := by
  refine ⟨fun s w rest hr henv => ?_, fun s w i hw => ?_⟩
  · rw [step_of_writeCmd hr henv]
    exact ⟨fun i hw => writeCmd_of_ok hw _, fun e hw => writeCmd_of_illegal hw _⟩
  · have hfetch : s.withFetchWord 32 w.toNat = placeCommand w s := by
      simp [State.withFetchWord, Nat.mod_eq_of_lt w.isLt]
    rw [hfetch, step_of_writeCmd (s := placeCommand w s) rfl rfl, writeCmd_of_ok hw]
    rfl

end Sys2Proof.Machine

/-! ## The code tables as prefix codes -/

namespace Sys2Proof.Machine

open Sys2Proof.Claims

section
variable {α : Type} {T : VlcTable α} {se : SyntaxElement} {idx : Nat}

/-- What is left of a code after the bit `b`: the rest of every codeword that begins with it. -/
def VlcTable.afterBit (T : VlcTable α) (b : Bool) : VlcTable α :=
  T.filterMap fun row => match row.1 with
    | [] => none
    | c :: w => if c = b then some (w, row.2) else none

/-- No codeword of `T` is the beginning of another, and every codeword has fewer than `n` bits. -/
def isPrefixCode : Nat → VlcTable α → Bool
  | 0, _ => false
  | n + 1, T => match vlcMatch T [] with
    | .codeword _ => T.length == 1
    | .unfinished => isPrefixCode n (T.afterBit false) && isPrefixCode n (T.afterBit true)
    | .invalid => true

/-- The strings of fewer than `n` bits whose last bit leaves no codeword they can be the beginning of (R145). -/
def invalidStrings : Nat → VlcTable α → List (List Bool)
  | 0, _ => []
  | n + 1, T => match vlcMatch T [] with
    | .codeword _ => []
    | .unfinished => [false, true].flatMap fun b => (invalidStrings n (T.afterBit b)).map (b :: ·)
    | .invalid => [[]]

/-- A prefix code of at most 16 bits, in which the empty string decides nothing and the strings `bad` are invalid. -/
def IsCode [DecidableEq α] (T : VlcTable α) (bad : List (List Bool)) : Prop :=
  vlcMatch T [] = .unfinished ∧ isPrefixCode 17 T = true ∧ invalidStrings 17 T = bad

theorem isPrefixCode_afterBit {n : Nat} (hroot : vlcMatch T [] = .unfinished) (h : isPrefixCode (n + 1) T = true)
    (b : Bool) : isPrefixCode n (T.afterBit b) = true := by
  rw [isPrefixCode, hroot, Bool.and_eq_true] at h
  cases b
  · exact h.1
  · exact h.2

theorem mem_afterBit {b : Bool} {w : List Bool} {v : α} : (w, v) ∈ T.afterBit b ↔ (b :: w, v) ∈ T := by
  simp only [VlcTable.afterBit, List.mem_filterMap]
  constructor
  · rintro ⟨⟨_ | ⟨c, w'⟩, v'⟩, hmem, h⟩
    · cases h
    · obtain ⟨rfl, hrow⟩ := Option.ite_none_right_eq_some.mp h
      injection hrow with hrow
      obtain ⟨rfl, rfl⟩ := Prod.mk.inj hrow
      exact hmem
  · exact fun h => ⟨_, h, if_pos rfl⟩

theorem afterBit_cons_nil (b : Bool) (v : α) (T : VlcTable α) :
    VlcTable.afterBit (([], v) :: T) b = T.afterBit b := rfl

theorem afterBit_cons_cons (b c : Bool) (w : List Bool) (v : α) (T : VlcTable α) :
    VlcTable.afterBit ((c :: w, v) :: T) b = if c = b then (w, v) :: T.afterBit b else T.afterBit b := by
  unfold VlcTable.afterBit
  by_cases h : c = b <;> simp [h]

theorem vlcMatch_eq (T : VlcTable α) (w : List Bool) : vlcMatch T w =
    (((T.find? fun row => row.1 == w).map (·.2)).map .codeword).getD
      (if T.any fun row => w.isPrefixOf row.1 then .unfinished else .invalid) := by
  unfold vlcMatch
  cases T.find? fun row => row.1 == w <;> rfl

/-- A string is in a code what its rest is in the code after its first bit. -/
theorem vlcMatch_cons (T : VlcTable α) (b : Bool) (w : List Bool) :
    vlcMatch T (b :: w) = vlcMatch (T.afterBit b) w := by
  have hfind : (T.find? fun row => row.1 == b :: w).map (·.2) =
      ((T.afterBit b).find? fun row => row.1 == w).map (·.2) := by
    induction T with
    | nil => rfl
    | cons row T ih =>
      obtain ⟨_ | ⟨c, w'⟩, v⟩ := row
      · simpa [afterBit_cons_nil] using ih
      · by_cases hc : c = b <;> by_cases hw : w' = w <;> simp [afterBit_cons_cons, hc, hw, ih]
  have hany : (T.any fun row => (b :: w).isPrefixOf row.1) = (T.afterBit b).any fun row => w.isPrefixOf row.1 := by
    rw [Bool.eq_iff_iff, List.any_eq_true, List.any_eq_true]
    simp only [List.isPrefixOf_iff_prefix, Prod.exists]
    constructor
    · rintro ⟨_, v, hmem, x, rfl⟩
      exact ⟨w ++ x, v, mem_afterBit.mpr hmem, List.prefix_append w x⟩
    · rintro ⟨x, v, hmem, hx⟩
      exact ⟨b :: x, v, mem_afterBit.mp hmem, List.cons_prefix_cons.mpr ⟨rfl, hx⟩⟩
  rw [vlcMatch_eq, vlcMatch_eq, hfind, hany]

theorem vlcMatch_of_mem {w : List Bool} {v : α} (h : (w, v) ∈ T) : ∃ v', vlcMatch T w = .codeword v' := by
  unfold vlcMatch
  cases hfind : T.find? fun row => row.1 == w with
  | some row => exact ⟨_, rfl⟩
  | none => simpa using List.find?_eq_none.mp hfind _ h

/-- Where the empty string is the beginning of no codeword there is none. -/
theorem eq_nil_of_invalid (h : vlcMatch T [] = .invalid) : T = [] := by
  cases T with
  | nil => rfl
  | cons row T => unfold vlcMatch at h; split at h <;> simp at h

/-- Reading with bits already read is reading from the code after them. -/
theorem pVlc_congr {T' : VlcTable α} {w w' : List Bool} (h : ∀ x, vlcMatch T (w ++ x) = vlcMatch T' (w' ++ x))
    (l : List Answer) : pVlc T se idx w l = pVlc T' se idx w' l := by
  induction l generalizing w w' with
  | nil => rfl
  | cons a l ih =>
    cases a with
    | eos => rfl
    | bit b =>
      rw [pVlc, pVlc, h [b], ih (w' := w' ++ [b]) fun x => by simpa using h (b :: x)]

/-- `VlcDecode` from where the empty string may already decide (R101). -/
def pVlcRest (T : VlcTable α) (se : SyntaxElement) (idx : Nat) : Parser α := fun l =>
  match vlcMatch T [] with
  | .codeword v => .got v [] l
  | .unfinished => pVlc T se idx [] l
  | .invalid => .error .invalidSyntax se idx [] l

/-- One bit of a codeword, then the rest of it. -/
theorem pVlc_cons (T : VlcTable α) (se : SyntaxElement) (idx : Nat) (b : Bool) (l : List Answer) :
    pVlc T se idx [] (.bit b :: l) = (pVlcRest (T.afterBit b) se idx l).after [.bitRead (.bit b)] := by
  rw [pVlc, List.nil_append, pVlcRest, vlcMatch_cons, pVlc_congr (T' := T.afterBit b) (w' := []) (vlcMatch_cons T b)]
  cases vlcMatch (T.afterBit b) [] <;> rfl

/-- From a codeword of a prefix code, whatever follows, its value is read, and exactly its bits. -/
theorem pVlcRest_codeword {n : Nat} {w : List Bool} {v : α} (rest : List Answer) (hT : isPrefixCode n T = true)
    (hw : (w, v) ∈ T) : pVlcRest T se idx (asAnswers w ++ rest) = .got v (asReads w) rest := by
  induction n generalizing T w with
  | zero => cases hT
  | succ n ih =>
    cases hroot : vlcMatch T []
    case codeword v' =>
      rw [isPrefixCode, hroot, beq_iff_eq, List.length_eq_one_iff] at hT
      obtain ⟨row, rfl⟩ := hT
      obtain rfl := List.mem_singleton.mp (vlcMatch_codeword hroot)
      cases List.mem_singleton.mp hw
      rw [pVlcRest, hroot]
      rfl
    case invalid =>
      rw [eq_nil_of_invalid hroot] at hw
      cases hw
    case unfinished =>
      cases w with
      | nil =>
        obtain ⟨v', hv'⟩ := vlcMatch_of_mem hw
        cases hv'.symm.trans hroot
      | cons b w =>
        rw [pVlcRest, hroot]
        have hrest := ih (isPrefixCode_afterBit hroot hT b) (mem_afterBit.mpr hw)
        exact (pVlc_cons ..).trans (congrArg (Parsed.after · _) hrest)

/-- An error after a transaction is one after the transactions that followed it. -/
theorem after_eq_error {r : Parsed α} {x : Transaction} {c : ErrorCode} {log : List Transaction} {rest : List Answer} :
    r.after [x] = .error c se idx (x :: log) rest ↔ r = .error c se idx log rest := by
  cases r <;> simp [Parsed.after]

/-- `VlcDecode` raises no error of its own before it has read a bit. -/
theorem pVlc_ne_invalid_nil (T : VlcTable α) (l rest : List Answer) :
    pVlc T se idx [] l ≠ .error .invalidSyntax se idx [] rest := by
  rcases l with _ | ⟨b | _, l⟩
  · nofun
  · rw [pVlc_cons]
    cases pVlcRest (T.afterBit b) se idx l <;> simp [Parsed.after]
  · simp [pVlc]

/-- The strings after whose last bit a prefix code raises INVALID_SYNTAX. -/
theorem pVlcRest_invalid {n : Nat} (w : List Bool) (rest : List Answer) (hT : isPrefixCode n T = true) :
    pVlcRest T se idx (asAnswers w ++ rest) = .error .invalidSyntax se idx (asReads w) rest ↔
      w ∈ invalidStrings n T := by
  induction n generalizing T w with
  | zero => cases hT
  | succ n ih =>
    cases hroot : vlcMatch T [] <;> rw [pVlcRest, invalidStrings, hroot]
    case codeword v => simp
    case invalid => cases w <;> simp [asAnswers, asReads]
    case unfinished =>
      cases w with
      | nil => simpa [asReads] using pVlc_ne_invalid_nil T _ rest
      | cons b w =>
        have hb := ih w (isPrefixCode_afterBit hroot hT b)
        calc
          _ ↔ (pVlcRest (T.afterBit b) se idx (asAnswers w ++ rest)).after [.bitRead (.bit b)] =
              .error .invalidSyntax se idx (.bitRead (.bit b) :: asReads w) rest := by rw [← pVlc_cons]; rfl
          _ ↔ w ∈ invalidStrings n (T.afterBit b) := after_eq_error.trans hb
          _ ↔ b :: w ∈ _ := by cases b <;> simp

end

section
variable {α : Type} [DecidableEq α] {T : VlcTable α} {bad : List (List Bool)} {w : List Bool} {v : α}
  {se : SyntaxElement} {idx : Nat}

theorem IsCode.pVlc_eq (h : IsCode T bad) (l : List Answer) : pVlc T se idx [] l = pVlcRest T se idx l := by
  rw [pVlcRest, h.1]

/-- A codeword is read exactly (R101). -/
theorem IsCode.pVlc_codeword (h : IsCode T bad) (hw : (w, v) ∈ T) (rest : List Answer) :
    pVlc T se idx [] (asAnswers w ++ rest) = .got v (asReads w) rest :=
  (h.pVlc_eq _).trans (pVlcRest_codeword rest h.2.1 hw)

/-- INVALID_SYNTAX is raised exactly at the invalid strings (R145). -/
theorem IsCode.pVlc_invalid (h : IsCode T bad) (rest : List Answer) :
    pVlc T se idx [] (asAnswers w ++ rest) = .error .invalidSyntax se idx (asReads w) rest ↔ w ∈ bad := by
  obtain ⟨-, hcode, hbad⟩ := id h
  rw [h.pVlc_eq, pVlcRest_invalid w rest hcode, hbad]

end

/-- Every column of coeff_token is a prefix code, with the invalid strings of R145. -/
theorem coeffTokenTable_isCode (nC : Int) : IsCode (coeffTokenTable nC) (invalidCoeffToken nC) := by
  unfold IsCode coeffTokenTable invalidCoeffToken
  split_ifs <;> decide

/-- The tables of `IsNatTable` (R141 to R144). -/
def natTables : List (VlcTable Nat) :=
  (List.range' 1 15).map totalZeros4x4 ++ (List.range' 1 3).map totalZerosDc420 ++
  (List.range' 1 7).map totalZerosDc422 ++ (List.range' 1 7).map runBeforeTable

theorem mem_natTables {T : VlcTable Nat} (h : IsNatTable T) : T ∈ natTables := by
  simp only [natTables, List.mem_append, List.mem_map, List.mem_range'_1]
  obtain ⟨n, h1, h2, rfl⟩ | ⟨n, h1, h2, rfl⟩ | ⟨n, h1, h2, rfl⟩ | ⟨n, h1, h2, rfl⟩ := h
  · exact .inl (.inl (.inl ⟨n, by omega, rfl⟩))
  · exact .inl (.inl (.inr ⟨n, by omega, rfl⟩))
  · exact .inl (.inr ⟨n, by omega, rfl⟩)
  · exact .inr ⟨n, by omega, rfl⟩

/-- The strings of R145 for total_zeros and run_before. -/
def invalidNat (T : VlcTable Nat) : List (List Bool) :=
  (if T = totalZeros4x4 1 then [cw 9 0b000000000] else []) ++
  (if T = runBeforeTable 7 then [cw 11 0b00000000000] else [])

/-- Every row of total_zeros and every column of run_before is a prefix code, with the invalid strings of R145. -/
theorem natTable_isCode {T : VlcTable Nat} (h : IsNatTable T) : IsCode T (invalidNat T) := by
  have hall : ∀ T ∈ natTables, IsCode T (invalidNat T) := by
    unfold IsCode
    decide
  exact hall T (mem_natTables h)

/-- Settles O20: the tables are prefix codes, and a prefix code reads its codewords exactly. -/
theorem vlcDecodeReadsExactlyTheCodeword : Obligations.VlcDecodeReadsExactlyTheCodeword :=
  ⟨fun nC _ _ _ _ rest hw => (coeffTokenTable_isCode nC).pVlc_codeword hw rest,
   fun _ _ _ _ _ rest hT hw => (natTable_isCode hT).pVlc_codeword hw rest⟩

/-- Settles O21: the columns are prefix codes with these invalid strings. -/
theorem coeffTokenInvalidStrings : Obligations.CoeffTokenInvalidStrings :=
  fun nC _ _ _ rest => ((coeffTokenTable_isCode nC).pVlc_invalid rest).symm

/-- Settles O22: the tables are prefix codes, all but two of them complete. -/
theorem totalZerosAndRunBeforeInvalidStrings : Obligations.TotalZerosAndRunBeforeInvalidStrings := by
  intro T w se idx rest hT
  rw [(natTable_isCode hT).pVlc_invalid rest, invalidNat, List.mem_append, List.mem_ite_nil_right,
    List.mem_ite_nil_right, List.mem_singleton, List.mem_singleton]

end Sys2Proof.Machine

/-! ## The RCD follows the pseudocode of CAVLC_BLOCK -/

namespace Sys2Proof.Machine

open Sys2Proof.Claims

/-! ### One bit and one codeword -/

section
variable {α β γ : Type} {f : Bool → Parser α} {Q : α → State → Prop} {s t u : State}

/-- The bit port, the record and the count are those of before, as after every update that follows from an answer. -/
def CarriesBits (s t : State) : Prop :=
  t.bits = s.bits ∧ t.portLog = s.portLog ∧ t.work.count = s.work.count

theorem raiseDecode_carriesBits {c : ErrorCode} {se : SyntaxElement} {idx : Nat} (s : State) :
    CarriesBits s (raiseDecode c se idx s) := ⟨by simp, by simp, by simp⟩

theorem follows_raiseDecode {c : ErrorCode} {se : SyntaxElement} {idx : Nat} :
    Follows State.bits (pRaise c se idx) Q (raiseDecode c se idx u) :=
  ⟨u, rfl, by simp, by simp, by simp⟩

/-- A check of the pseudocode that raises an error is the same check of the updates that follow from an answer. -/
theorem follows_check {c : ErrorCode} {se : SyntaxElement} {idx : Nat} {p : Parser α} (wrong : Prop) [Decidable wrong]
    (hraise : CarriesBits s u) (hgo : ¬ wrong → CarriesBits s t ∧ Follows State.bits p Q t) :
    CarriesBits s (if wrong then raiseDecode c se idx u else t) ∧
      Follows State.bits (if wrong then pRaise c se idx else p) Q (if wrong then raiseDecode c se idx u else t) := by
  by_cases h : wrong
  · obtain ⟨hbits, hlog, hcount⟩ := raiseDecode_carriesBits (c := c) (se := se) (idx := idx) u
    rw [if_pos h, if_pos h]
    exact ⟨⟨hbits.trans hraise.1, hlog.trans hraise.2.1, hcount.trans hraise.2.2⟩, follows_raiseDecode⟩
  · rw [if_neg h, if_neg h]
    exact hgo h

/-- A bit of the pseudocode is a step that reads it; what follows is the pseudocode's from where the step ends. -/
theorem follows_bit {se : SyntaxElement} {idx : Nat} {k : Bool → State → State} (hb : s.busy = true)
    (hstep : rcdStep s = bitRead se idx k s)
    (hk : ∀ b rest log u, s.bits = .bit b :: rest → u = { s with
        bits := rest, portLog := log, work := { s.work with count := s.work.count + 1 } } →
      CarriesBits u (k b u) ∧ Follows State.bits (f b) Q (k b u)) :
    Follows State.bits (pThen (pBit se idx) f) Q s := by
  obtain ⟨hbits, ht⟩ | ⟨rest, hbits, ht⟩ | ⟨b, rest, hbits, ht⟩ := bitRead_cases se idx k s <;> rw [← hstep] at ht
  · rw [Follows, pThen, pBit, hbits]
    exact ⟨⟨hbits, rfl, rfl⟩, hb, ht⟩
  · rw [Follows, pThen, pBit, hbits]
    exact ⟨_, ht, rfl, rfl, rfl⟩
  · obtain ⟨⟨hcbits, hclog, hccount⟩, hf⟩ := hk b rest (.bitRead (.bit b) :: s.portLog) _ hbits rfl
    rw [← ht] at hcbits hclog hccount hf
    refine follows_after (log := [_]) ⟨hcbits, hclog, hccount⟩ rfl hf ?_
    rw [pThen, pBit, hbits]
    rfl

theorem pThen_assoc (p : Parser α) (f : α → Parser β) (g : β → Parser γ) :
    pThen (pThen p f) g = pThen p fun v => pThen (f v) g := by
  funext l
  unfold pThen
  cases p l
  case got v log rest =>
    cases hf : f v rest <;> simp only [Parsed.after, hf]
    case got v' log' rest' => cases g v' rest' <;> simp
  case error => rfl
  case waiting => rfl

/-- `VlcDecode` bit by bit (R101). -/
theorem pVlc_eq_bit (T : VlcTable α) (se : SyntaxElement) (idx : Nat) (w : List Bool) :
    pVlc T se idx w = pThen (pBit se idx) fun b => match vlcMatch T (w ++ [b]) with
      | .codeword v => pGive v
      | .unfinished => pVlc T se idx (w ++ [b])
      | .invalid => pRaise .invalidSyntax se idx := by
  funext l
  rcases l with _ | ⟨b | _, l⟩
  · rfl
  · rw [pVlc]
    simp only [pThen, pBit, pRead]
    cases vlcMatch T (w ++ [b]) <;> rfl
  · rfl

/-- `t` is `s` with some more bits of a codeword read. -/
def Reading (s t : State) : Prop :=
  ∃ bits log count code, t = { s with
    bits := bits, portLog := log, work := { s.work with count := count, code := code } }

/-- A codeword of the pseudocode is read a bit a step; what follows is the pseudocode's from where its value is
found. -/
theorem follows_vlc {T : VlcTable β} {se : SyntaxElement} {idx : Nat} {found : β → State → State} {g : β → Parser α}
    (hb : s.busy = true) (hcode : s.work.code = [])
    (hstep : ∀ t, Reading s t → rcdStep t = vlcRead T se idx found t)
    (hfound : ∀ v u, Reading s u → CarriesBits u (found v u) ∧ Follows State.bits (g v) Q (found v u)) :
    Follows State.bits (pThen (pVlc T se idx []) g) Q s := by
  suffices h : ∀ n t, t.bits.length = n → Reading s t →
      Follows State.bits (pThen (pVlc T se idx t.work.code) g) Q t from hcode ▸ h _ s rfl ⟨_, _, _, _, rfl⟩
  intro n
  induction n using Nat.strong_induction_on with
  | _ n ih =>
    rintro t hn ⟨bits, log, count, code, rfl⟩
    rw [pVlc_eq_bit, pThen_assoc]
    refine follows_bit hb (hstep _ ⟨_, _, _, _, rfl⟩) ?_
    rintro b rest log' u hbits rfl
    dsimp only [vlcStep] at hbits ⊢
    cases hm : vlcMatch T (code ++ [b]) with
    | codeword v =>
      obtain ⟨hcarries, hf⟩ := hfound v
        { s with bits := rest, portLog := log', work := { s.work with count := count + 1, code := [] } }
        ⟨_, _, _, _, rfl⟩
      exact ⟨hcarries, follows_known hf⟩
    | unfinished =>
      refine ⟨⟨rfl, rfl, rfl⟩, ih rest.length ?_ _ rfl ⟨_, _, _, _, rfl⟩⟩
      rw [← hn, hbits]
      exact Nat.lt_succ_self _
    | invalid => exact ⟨raiseDecode_carriesBits _, follows_raiseDecode⟩

end
/-! ### One level -/

/-- The updates that follow from a bit, as long as no error is raised: BUSY, the bit port, the record and the count are
those of before. -/
structure GoesOn (s t : State) : Prop where
  busy : t.busy = s.busy
  carries : CarriesBits s t

section
variable {s t u : State}

theorem GoesOn.after (h : GoesOn t u) (h' : GoesOn s t) : GoesOn s u :=
  ⟨h.busy.trans h'.busy, h.carries.1.trans h'.carries.1, h.carries.2.1.trans h'.carries.2.1,
   h.carries.2.2.trans h'.carries.2.2⟩

theorem nextRun_goesOn (s : State) : GoesOn s (nextRun s) := by
  unfold nextRun
  split
  · exact ⟨rfl, rfl, rfl, rfl⟩
  · exact ⟨rfl, rfl, rfl, rfl⟩

theorem startTotalZeros_goesOn (s : State) : GoesOn s (startTotalZeros s) := by
  unfold startTotalZeros
  split
  · exact ⟨rfl, rfl, rfl, rfl⟩
  · exact (nextRun_goesOn _).after ⟨rfl, rfl, rfl, rfl⟩

theorem nextLevel_goesOn (s : State) : GoesOn s (nextLevel s) := by
  unfold nextLevel
  split_ifs
  · exact ⟨rfl, rfl, rfl, rfl⟩
  · exact ⟨rfl, rfl, rfl, rfl⟩
  · exact startTotalZeros_goesOn s

theorem finishLevel_goesOn (s : State) : GoesOn s (finishLevel s) :=
  (nextLevel_goesOn _).after ⟨rfl, rfl, rfl, rfl⟩

theorem startLevelSuffix_goesOn (s : State) : GoesOn s (startLevelSuffix s) := by
  unfold startLevelSuffix
  dsimp only
  split
  · exact ⟨rfl, rfl, rfl, rfl⟩
  · exact (finishLevel_goesOn _).after ⟨rfl, rfl, rfl, rfl⟩

/-- level_prefix bit by bit (R107). -/
theorem pLevelPrefix_eq_bit (idx lz : Nat) :
    pLevelPrefix idx lz = pThen (pBit .levelPrefix idx) fun b =>
      if b then pGive lz
      else if Config.levelPrefixMax < lz + 1 then pRaise .invalidSyntax .levelPrefix idx
      else pLevelPrefix idx (lz + 1) := by
  funext l
  rcases l with _ | ⟨⟨_ | _⟩ | _, l⟩
  · rfl
  · rw [pLevelPrefix]
    simp only [pThen, pBit, pRead, Bool.false_eq_true, if_false]
    split <;> rfl
  · rfl
  · rfl

/-- BUSY at level `i` of `s`: only the registers that the reading of one level uses may differ (R107 to R109). -/
structure SameLevel (s t : State) : Prop where
  busy : t.busy = true
  maxN : t.work.maxN = s.work.maxN
  tc : t.work.tc = s.work.tc
  t1 : t.work.t1 = s.work.t1
  suffixLength : t.work.suffixLength = s.work.suffixLength
  i : t.work.i = s.work.i
  levelVal : t.work.levelVal = s.work.levelVal
  coef : t.coef = s.coef

/-- The level_prefix `p` of the level of `s` is read, and its level_suffix comes next (R108). -/
def SuffixBegun (s : State) (p : Nat) (t : State) : Prop :=
  ∃ u, t = startLevelSuffix u ∧ SameLevel s u ∧ u.work.levelPrefix = p

/-- A bit of the level of `s` (R106, R107, R109). -/
theorem follows_levelBit {α : Type} {f : Bool → Parser α} {Q : α → State → Prop} {se : SyntaxElement}
    {k : Bool → State → State} (h : SameLevel s t) (hstep : rcdStep t = bitRead se t.work.i k t)
    (hk : ∀ b rest log u, u = { t with
        bits := rest, portLog := log, work := { t.work with count := t.work.count + 1 } } →
      SameLevel s u → CarriesBits u (k b u) ∧ Follows State.bits (f b) Q (k b u)) :
    Follows State.bits (pThen (pBit se s.work.i) f) Q t := by
  rw [← h.i]
  exact follows_bit h.busy hstep fun b rest log u _ hu => hk b rest log u hu (hu ▸ { h with })

theorem follows_levelPrefix {n lz : Nat} (hn : lz + n = Config.levelPrefixMax) (h : SameLevel s t)
    (hphase : t.work.phase = .levelPrefix) (hlz : t.work.levelPrefix = lz) :
    Follows State.bits (pLevelPrefix s.work.i lz) (SuffixBegun s) t := by
  induction n using Nat.strong_induction_on generalizing lz t with
  | _ n ih =>
    rw [pLevelPrefix_eq_bit]
    refine follows_levelBit h (by simp only [rcdStep, h.busy, hphase, if_true]; rfl) ?_
    rintro b rest log u rfl hu
    subst hlz
    cases b with
    | true =>
      have hgo := startLevelSuffix_goesOn { t with
        bits := rest, portLog := log, work := { t.work with count := t.work.count + 1 } }
      simp only [if_true]
      exact ⟨hgo.carries, follows_give (hgo.busy.trans h.busy) ⟨_, rfl, hu, rfl⟩⟩
    | false =>
      simp only [Bool.false_eq_true, if_false]
      split
      next => exact ⟨⟨by simp, by simp, by simp⟩, h.i ▸ follows_raiseDecode⟩
      next => exact ⟨⟨rfl, rfl, rfl⟩, ih (n - 1) (by omega) (by omega) { h with } hphase rfl⟩

/-- The level_prefix `p` and the level_suffix `v` of the level of `s` are read (R109). -/
def FinishBegun (s : State) (p v : Nat) (t : State) : Prop :=
  ∃ u, t = finishLevel u ∧ SameLevel s u ∧ u.work.levelPrefix = p ∧ u.work.levelSuffix = v

/-- `n` bits of the level_suffix of the level of `s` are left, after bits of the value `v` (R109). -/
def AtSuffix (s : State) (p n v : Nat) (t : State) : Prop :=
  if n = 0 then FinishBegun s p v t
  else SameLevel s t ∧ t.work.phase = .levelSuffix ∧ t.work.levelPrefix = p ∧ t.work.j = n ∧ t.work.levelSuffix = v

theorem FinishBegun.busy {p v : Nat} (h : FinishBegun s p v t) : t.busy = true := by
  obtain ⟨u, rfl, hu, -⟩ := h
  exact (finishLevel_goesOn u).busy.trans hu.busy

theorem follows_levelSuffix {p n v : Nat} (h : AtSuffix s p n v t) :
    Follows State.bits (pBits .levelSuffix s.work.i n v) (fun v => FinishBegun s p v) t := by
  induction n generalizing v t with
  | zero => exact follows_give (FinishBegun.busy h) h
  | succ n ih =>
    obtain ⟨h, hphase, hp, hj, rfl⟩ := h
    refine follows_levelBit h (by simp only [rcdStep, h.busy, hphase, if_true]; rfl) ?_
    rintro b rest log u rfl hu
    simp only [hj, Nat.add_sub_cancel]
    split
    next hlast =>
      exact ⟨(finishLevel_goesOn _).carries, ih (by rw [AtSuffix, if_pos hlast]; exact ⟨_, rfl, { hu with }, hp, rfl⟩)⟩
    next hmore =>
      exact ⟨⟨rfl, rfl, rfl⟩, ih (by rw [AtSuffix, if_neg hmore]; exact ⟨{ hu with }, hphase, hp, rfl, rfl⟩)⟩

/-- BUSY at the next level, level `i` of `s` being `v` (R110, R111). -/
structure LevelNext (s : State) (v : Int) (suffixLength : Nat) (t : State) : Prop where
  busy : t.busy = true
  maxN : t.work.maxN = s.work.maxN
  tc : t.work.tc = s.work.tc
  t1 : t.work.t1 = s.work.t1
  suffixLength : t.work.suffixLength = suffixLength
  i : t.work.i = s.work.i + 1
  levelVal : t.work.levelVal = s.work.levelVal.setIfInBounds s.work.i v
  coef : t.coef = s.coef

/-- A level that is no trailing one (R107 to R111). -/
theorem follows_level (h : SameLevel s t) (hphase : t.work.phase = .levelPrefix) (hlz : t.work.levelPrefix = 0) :
    Follows State.bits
      (pLevel s.work.i s.work.suffixLength (decide (s.work.i = s.work.t1) && decide (s.work.t1 < 3)))
      (fun v t => ∃ u, t = nextLevel u ∧ LevelNext s v (nextSuffixLength s.work.suffixLength v) u) t := by
  refine follows_then (follows_levelPrefix (n := 31) rfl h hphase hlz) ?_
  rintro p _ - ⟨u, rfl, hu, hp⟩
  have hsuffix : AtSuffix s p (suffixSize p s.work.suffixLength) 0 (startLevelSuffix u) := by
    rw [startLevelSuffix, hp, hu.suffixLength, AtSuffix]
    split
    next h0 =>
      simp only [h0, lt_irrefl, if_false]
      exact ⟨_, rfl, { hu with }, hp, rfl⟩
    next h0 =>
      rw [if_pos (by omega)]
      exact ⟨{ hu with }, rfl, hp, rfl, rfl⟩
  refine follows_map (follows_levelSuffix hsuffix) ?_
  rintro v _ ⟨x, rfl, hx, hxp, rfl⟩
  rw [← hxp, ← hx.suffixLength, ← hx.t1, ← hx.i]
  exact ⟨_, rfl, hx.busy, hx.maxN, hx.tc, hx.t1, rfl, congrArg (· + 1) hx.i, by rw [← hx.levelVal, ← hx.i], hx.coef⟩

end

/-! ### The levels, total_zeros and the runs -/

section
variable {s t u : State}

/-- One more entry of a prefix of a vector. -/
theorem take_succ_toList {α : Type} {n : Nat} (v : Vector α n) {i : Nat} (hi : i < n) (d : α) :
    v.toList.take (i + 1) = v.toList.take i ++ [v.getD i d] := by
  rw [List.take_add_one]
  simp [hi, Vector.getD]

/-- A prefix of a vector whose last entry has just been set. -/
theorem take_succ_setIfInBounds {α : Type} {n : Nat} (v : Vector α n) {i : Nat} (hi : i < n) (x : α) :
    (v.setIfInBounds i x).toList.take (i + 1) = v.toList.take i ++ [x] := by
  rw [take_succ_toList _ hi x]
  congr 1
  · refine List.ext_getElem (by simp) fun k hk hk' => ?_
    have hlt : k < i := by simp at hk'; omega
    simp [hlt.ne']
  · simp [Vector.getD, hi]

/-- BUSY with the same operands, coeff_token, levels and COEF (R112 to R117). -/
structure SameBlock (s t : State) : Prop where
  busy : t.busy = true
  maxN : t.work.maxN = s.work.maxN
  tc : t.work.tc = s.work.tc
  t1 : t.work.t1 = s.work.t1
  levelVal : t.work.levelVal = s.work.levelVal
  coef : t.coef = s.coef

/-- From level `i` of `s` on the levels `vs` are read, up to the last (R105 to R111). -/
structure LevelsRead (s : State) (vs : List Int) (t : State) : Prop where
  busy : t.busy = true
  maxN : t.work.maxN = s.work.maxN
  tc : t.work.tc = s.work.tc
  t1 : t.work.t1 = s.work.t1
  levels : t.work.levelVal.toList.take t.work.tc = s.work.levelVal.toList.take s.work.i ++ vs
  coef : t.coef = s.coef

/-- The levels of `s` from level `i` on are `vs`, and total_zeros comes next (R112). -/
def TotalZerosBegun (s : State) (vs : List Int) (t : State) : Prop := ∃ u, t = startTotalZeros u ∧ LevelsRead s vs u

theorem TotalZerosBegun.cons {v : Int} {vs : List Int} {n : Nat} (hu : LevelNext s v n u)
    (h : TotalZerosBegun u vs t) (hi : s.work.i < 16) : TotalZerosBegun s (v :: vs) t := by
  obtain ⟨x, rfl, hx⟩ := h
  refine ⟨x, rfl, hx.busy, hx.maxN.trans hu.maxN, hx.tc.trans hu.tc, hx.t1.trans hu.t1, ?_, hx.coef.trans hu.coef⟩
  rw [hx.levels, hu.levelVal, hu.i, take_succ_setIfInBounds _ hi, List.append_assoc]
  rfl

theorem follows_levels {n : Nat} (hb : s.busy = true) (hn : s.work.i + n = s.work.tc) (htc : s.work.tc ≤ 16) :
    Follows State.bits (pLevels s.work.t1 n s.work.i s.work.suffixLength) (TotalZerosBegun s) (nextLevel s) := by
  induction n generalizing s with
  | zero =>
    rw [nextLevel, if_neg (by omega)]
    refine follows_give ((startTotalZeros_goesOn s).busy.trans hb) ⟨s, rfl, hb, rfl, rfl, rfl, ?_, rfl⟩
    rw [← hn, Nat.add_zero, List.append_nil]
  | succ n ih =>
    have hnext : ∀ v sl x, LevelNext s v sl x → Follows State.bits
        (pThen (pLevels s.work.t1 n (s.work.i + 1) sl) fun vs => pGive (v :: vs)) (TotalZerosBegun s)
        (nextLevel x) := by
      intro v sl x hx
      have h := ih hx.busy (by rw [hx.i, hx.tc]; omega) (hx.tc ▸ htc)
      rw [hx.t1, hx.i, hx.suffixLength] at h
      exact follows_map h fun vs t ht => ht.cons hx (by omega)
    rw [nextLevel, if_pos (by omega), pLevels]
    split
    next =>
      refine follows_bit hb (by simp only [rcdStep, toPhase_busy, toPhase_work, hb, if_true]; rfl) ?_
      rintro b rest log u - rfl
      exact ⟨(nextLevel_goesOn _).carries, hnext _ _ _ ⟨hb, rfl, rfl, rfl, rfl, rfl, rfl, rfl⟩⟩
    next =>
      refine follows_then (follows_level (s := s) ⟨hb, rfl, rfl, rfl, rfl, rfl, rfl, rfl⟩ rfl rfl) ?_
      rintro v _ - ⟨x, rfl, hx⟩
      exact hnext v _ x hx

/-- total_zeros `tz` is known for the block of `s`, and the runs come next (R114). -/
def RunsBegun (s : State) (tz : Nat) (t : State) : Prop :=
  ∃ u, t = nextRun u ∧ SameBlock s u ∧ u.work.tz = tz ∧ u.work.zerosLeft = tz ∧ u.work.i = 0

theorem startRuns_begun (h : SameBlock s t) : RunsBegun s t.work.tz (startRuns t) :=
  ⟨_, rfl, { h with }, rfl, rfl, rfl⟩

theorem startRuns_goesOn (s : State) : GoesOn s (startRuns s) := (nextRun_goesOn _).after ⟨rfl, rfl, rfl, rfl⟩

theorem follows_totalZeros (hb : s.busy = true) :
    Follows State.bits (pTotalZeros s.maxNum s.work.tc) (RunsBegun s) (startTotalZeros s) := by
  unfold pTotalZeros startTotalZeros
  split
  next =>
    refine follows_vlc (found := totalZerosFound) hb rfl ?_ ?_
    · rintro _ ⟨bits, log, count, code, rfl⟩
      simp only [rcdStep, hb, if_true]
      rfl
    · rintro tz _ ⟨bits, log, count, code, rfl⟩
      exact follows_check _ ⟨rfl, rfl, rfl⟩ fun _ => ⟨(startRuns_goesOn _).carries,
        follows_give ((startRuns_goesOn _).busy.trans hb) (startRuns_begun ⟨hb, rfl, rfl, rfl, rfl, rfl⟩)⟩
  next => exact follows_give ((startRuns_goesOn _).busy.trans hb) (startRuns_begun ⟨hb, rfl, rfl, rfl, rfl, rfl⟩)

/-- From level `i` of `s` on the runs `rs` are known, up to the last (R114, R115). -/
structure RunsRead (s : State) (rs : List Nat) (t : State) : Prop where
  block : SameBlock s t
  phase : t.work.phase = .cavlcFinish
  tz : t.work.tz = s.work.tz
  runs : t.work.runVal.toList.take s.work.tc = s.work.runVal.toList.take s.work.i ++ rs

/-- No run is left to read: the pseudocode gives zeros and the remaining budget. -/
theorem pRuns_closed {n z : Nat} (h : n = 0 ∨ z = 0) (i : Nat) : pRuns n i z = pGive (List.replicate n 0 ++ [z]) := by
  induction n generalizing i with
  | zero => rfl
  | succ n ih =>
    obtain rfl : z = 0 := by omega
    rw [pRuns, if_neg (lt_irrefl 0), ih (.inr rfl)]
    rfl

/-- The runs closed at level `i`, as a list (R114, R115). -/
theorem closeRuns_runs {n : Nat} (hn : s.work.i + n + 1 = s.work.tc) (htc : s.work.tc ≤ 16) :
    (closeRuns s).work.runVal.toList.take s.work.tc =
      s.work.runVal.toList.take s.work.i ++ (List.replicate n 0 ++ [s.work.zerosLeft]) := by
  refine List.ext_getElem (by simp; omega) fun k hk _ => ?_
  have hlt : k < s.work.tc := by simp at hk; omega
  rw [List.getElem_take]
  obtain hread | ⟨hzero, hlast⟩ | rfl : k < s.work.i ∨ (s.work.i ≤ k ∧ k + 1 < s.work.tc) ∨ k = s.work.i + n := by omega
  · rw [List.getElem_append_left (by simp; omega)]
    simp [closeRuns, show k + 1 ≠ s.work.tc by omega, show ¬ s.work.i ≤ k by omega]
  · rw [List.getElem_append_right (by simp; omega), List.getElem_append_left (by simp; omega)]
    simp [closeRuns, show k + 1 ≠ s.work.tc by omega, hzero, hlast]
  · rw [List.getElem_append_right (by simp), List.getElem_append_right (by simp; omega)]
    simp [closeRuns, hn]

theorem closeRuns_read {n : Nat} (hb : s.busy = true) (hn : s.work.i + n + 1 = s.work.tc) (htc : s.work.tc ≤ 16) :
    RunsRead s (List.replicate n 0 ++ [s.work.zerosLeft]) (closeRuns s) :=
  ⟨⟨hb, rfl, rfl, rfl, rfl, rfl⟩, rfl, rfl, closeRuns_runs hn htc⟩

/-- BUSY at the next run, run `i` of `s` being `v` (R114). -/
structure RunNext (s : State) (v : Nat) (t : State) : Prop where
  block : SameBlock s t
  tz : t.work.tz = s.work.tz
  i : t.work.i = s.work.i + 1
  zerosLeft : t.work.zerosLeft = s.work.zerosLeft - v
  runVal : t.work.runVal = s.work.runVal.setIfInBounds s.work.i v

theorem RunsRead.cons {v : Nat} {rs : List Nat} (hu : RunNext s v u) (h : RunsRead u rs t) (hi : s.work.i < 16) :
    RunsRead s (v :: rs) t := by
  obtain ⟨hblock, hphase, htz, hruns⟩ := h
  obtain ⟨hblock', htz', hi', -, hrun⟩ := hu
  refine ⟨⟨hblock.busy, hblock.maxN.trans hblock'.maxN, hblock.tc.trans hblock'.tc, hblock.t1.trans hblock'.t1,
    hblock.levelVal.trans hblock'.levelVal, hblock.coef.trans hblock'.coef⟩, hphase, htz.trans htz', ?_⟩
  rw [← hblock'.tc, hruns, hrun, hi', take_succ_setIfInBounds _ hi, List.append_assoc]
  rfl

theorem follows_runs {n : Nat} (hb : s.busy = true) (hn : s.work.i + n + 1 = s.work.tc) (htc : s.work.tc ≤ 16) :
    Follows State.bits (pRuns n s.work.i s.work.zerosLeft) (RunsRead s) (nextRun s) := by
  induction n generalizing s with
  | zero =>
    rw [nextRun, if_neg (by omega)]
    exact follows_give hb (closeRuns_read (n := 0) hb hn htc)
  | succ n ih =>
    by_cases hz : 0 < s.work.zerosLeft
    · have hnext : ∀ v x, RunNext s v x → Follows State.bits
          (pThen (pRuns n (s.work.i + 1) (s.work.zerosLeft - v)) fun rs => pGive (v :: rs)) (RunsRead s)
          (nextRun x) := by
        intro v x hx
        have h := ih hx.block.busy (by rw [hx.i, hx.block.tc]; omega) (hx.block.tc ▸ htc)
        rw [hx.i, hx.zerosLeft] at h
        exact follows_map h fun rs t ht => ht.cons hx (by omega)
      rw [nextRun, if_pos ⟨by omega, hz⟩, pRuns, if_pos hz]
      refine follows_vlc (found := runBeforeFound) hb rfl ?_ ?_
      · rintro _ ⟨bits, log, count, code, rfl⟩
        simp only [rcdStep, hb, if_true]
        rfl
      · rintro v _ ⟨bits, log, count, code, rfl⟩
        exact follows_check _ ⟨rfl, rfl, rfl⟩ fun _ => ⟨(nextRun_goesOn _).carries,
          hnext v _ ⟨⟨hb, rfl, rfl, rfl, rfl, rfl⟩, rfl, rfl, rfl, rfl⟩⟩
    · rw [nextRun, if_neg (by omega), pRuns_closed (.inr (by omega))]
      exact follows_give hb (closeRuns_read hb hn htc)

end

/-! ### The reverse scatter and the block -/

/-- The last level comes first, above its run of zeros (R116). -/
theorem scatterList_concat {levels : List Int} {runs : List Nat} (h : levels.length = runs.length) (v : Int) (r : Nat) :
    scatterList (levels ++ [v]) (runs ++ [r]) = List.replicate r 0 ++ v :: scatterList levels runs := by
  simp [scatterList, List.zip_append h]

section
variable {levelVal : Vector Int 16} {runVal : Vector Nat 16} {n : Nat}

/-- The scatter writes nothing below where it begins. -/
theorem scatterLoop_below {p : Int} {coef : Vector Word 64} {k : Nat} (hk : k < 64) (hp : (k : Int) ≤ p) :
    (scatterLoop levelVal runVal n (p, coef)).2[k] = coef[k] := by
  induction n generalizing p coef with
  | zero => rfl
  | succ n ih =>
    rw [scatterLoop, ih (by omega), Vector.getElem_setIfInBounds_ne]
    omega

/-- From where it begins the scatter writes the block of the levels and the runs, over zeros (R116). -/
theorem scatterLoop_get (hn : n ≤ 16) {q k : Nat} {coef : Vector Word 64} (hk : k < 64) (hq : q ≤ k)
    (hzero : coef[k] = 0) :
    (scatterLoop levelVal runVal n ((q : Int) - 1, coef)).2[k] =
      coefWord ((scatterList (levelVal.toList.take n) (runVal.toList.take n)).getD (k - q) 0) := by
  induction n generalizing q coef with
  | zero => exact hzero
  | succ n ih =>
    rw [scatterLoop, take_succ_toList levelVal hn 0, take_succ_toList runVal hn 0, scatterList_concat (by simp)]
    generalize levelVal.getD n 0 = v
    generalize runVal.getD n 0 = r
    rw [show (q : Int) - 1 + (r : Nat) + 1 = ((q + r : Nat) : Int) by push_cast; ring, Int.toNat_natCast]
    obtain hlt | rfl | hgt := Nat.lt_trichotomy k (q + r)
    · rw [scatterLoop_below hk (by omega), Vector.getElem_setIfInBounds_ne _ (by omega), hzero,
        List.getD_append _ _ _ _ (by simp; omega), List.getD_replicate _ (by omega)]
      rfl
    · rw [scatterLoop_below hk le_rfl, List.getD_append_right _ _ _ _ (by simp)]
      simp
    · have hk' := ih (by omega) (q := q + r + 1) (coef := coef.setIfInBounds (q + r) (coefWord v)) hgt
        (by rw [Vector.getElem_setIfInBounds_ne _ (by omega), hzero])
      rw [Nat.cast_succ, add_sub_cancel_right] at hk'
      rw [hk', List.getD_append_right _ _ _ _ (by simp; omega), List.length_replicate,
        show k - q - r = k - (q + r + 1) + 1 by omega, List.getD_cons_succ]

end

/-- All bits are read, and finishing leaves the block `b` (R116, R117). -/
structure CavlcRead (n : BitVec 7) (b : Block) (t : State) : Prop where
  phase : t.work.phase = .cavlcFinish
  maxN : t.work.maxN = n
  tc : t.work.tc = b.tc
  t1 : t.work.t1 = b.t1
  tz : t.work.tz = b.tz
  numCoeff : (if 0 < b.tc then b.tc + b.tz else 0) = b.numCoeff
  cbf : decide (0 < b.tc) = b.cbf
  coef : ∀ (k : Nat) (h : k < 64), k < n.toNat → (scatter t).coef[k] = coefWord (b.coefs.getD k 0)

section
variable {s t u : State}

/-- The scatter of the levels and runs read, into COEF below maxN. -/
theorem scatter_get {k : Nat} (htc : s.work.tc ≤ 16) (hk : k < 64) (hmax : k < s.maxNum) :
    (scatter s).coef[k] = coefWord ((padBlock s.maxNum
      (scatterList (s.work.levelVal.toList.take s.work.tc) (s.work.runVal.toList.take s.work.tc))).getD k 0) := by
  have h := scatterLoop_get (levelVal := s.work.levelVal) (runVal := s.work.runVal) htc (q := 0)
    (coef := zeroRange 0 s.maxNum s.coef) hk (Nat.zero_le k) (by simp [hmax])
  rw [Nat.sub_zero] at h
  rw [padBlock_getD]
  refine h.trans (congrArg coefWord ?_)
  split
  · rfl
  · exact List.getD_eq_default _ _ (by omega)

/-- The block of the levels and the runs (R116, R117). -/
theorem cavlcRead_of_runsRead {x : State} {levels : List Int} {tz : Nat} {runs : List Nat} (hi : s.work.i = 0)
    (h0 : 0 < s.work.tc) (htc : s.work.tc ≤ 16) (hu : LevelsRead s levels u) (hx : SameBlock u x)
    (htz : x.work.tz = tz) (hix : x.work.i = 0) (ht : RunsRead x runs t) :
    CavlcRead s.work.maxN
      { coefs := padBlock s.maxNum (scatterList levels runs), tc := s.work.tc, t1 := s.work.t1, tz := tz
        numCoeff := s.work.tc + tz, cbf := true } t := by
  obtain ⟨ht, hphase, htz', hruns⟩ := ht
  have hlevels := hu.levels
  have hmaxN : t.work.maxN = s.work.maxN := ht.maxN.trans (hx.maxN.trans hu.maxN)
  have hmax : t.maxNum = s.maxNum := congrArg BitVec.toNat hmaxN
  have htc' : t.work.tc = s.work.tc := ht.tc.trans (hx.tc.trans hu.tc)
  rw [hi, List.take_zero, List.nil_append, hu.tc] at hlevels
  rw [hix, List.take_zero, List.nil_append, hx.tc.trans hu.tc] at hruns
  refine ⟨hphase, hmaxN, htc', ht.t1.trans (hx.t1.trans hu.t1), htz'.trans htz, if_pos h0, decide_eq_true h0,
    fun k hk hlt => ?_⟩
  rw [scatter_get (htc' ▸ htc) hk (hmax ▸ hlt), htc', ht.levelVal, hx.levelVal, hlevels, hruns, hmax]

/-- The levels, total_zeros and the runs of a block with TotalCoeff above 0 (R100). -/
theorem follows_levelsAndRuns {maxN : BitVec 7} {tc t1 sl : Nat} (hb : s.busy = true) (hmaxN : s.work.maxN = maxN)
    (htc : s.work.tc = tc) (ht1 : s.work.t1 = t1) (hsl : s.work.suffixLength = sl) (hi : s.work.i = 0) (h0 : 0 < tc)
    (hle : tc ≤ 16) :
    Follows State.bits
      (pThen (pLevels t1 tc 0 sl) fun levels =>
        pThen (pTotalZeros maxN.toNat tc) fun tz =>
        pThen (pRuns (tc - 1) 0 tz) fun runs =>
        pGive
          { coefs := padBlock maxN.toNat (scatterList levels runs), tc := tc, t1 := t1, tz := tz
            numCoeff := tc + tz, cbf := true })
      (CavlcRead maxN) (nextLevel s) := by
  subst hmaxN htc ht1 hsl
  have hlevels := follows_levels hb (n := s.work.tc) (by omega) hle
  rw [hi] at hlevels
  refine follows_then hlevels ?_
  rintro levels _ - ⟨u, rfl, hu⟩
  have htotal := follows_totalZeros hu.busy
  rw [State.maxNum, hu.tc, hu.maxN] at htotal
  refine follows_then htotal ?_
  rintro tz _ - ⟨x, rfl, hx, htz, hzeros, hix⟩
  have htcx : x.work.tc = s.work.tc := hx.tc.trans hu.tc
  have hruns := follows_runs (n := s.work.tc - 1) hx.busy (by omega) (htcx ▸ hle)
  rw [hix, hzeros] at hruns
  exact follows_map hruns fun runs t ht => cavlcRead_of_runsRead hi h0 hle hu hx htz hix ht

/-- The block of TotalCoeff 0 (R104). -/
theorem cavlcRead_of_zero {t1 : Nat} (hphase : t.work.phase = .cavlcFinish) (hmaxN : t.work.maxN = s.work.maxN)
    (htc : t.work.tc = 0) (ht1 : t.work.t1 = t1) (htz : t.work.tz = 0) :
    CavlcRead s.work.maxN
      { coefs := padBlock s.maxNum [], tc := 0, t1 := t1, tz := 0, numCoeff := 0, cbf := false } t := by
  have hmax : t.maxNum = s.maxNum := congrArg BitVec.toNat hmaxN
  refine ⟨hphase, hmaxN, htc, ht1, htz, rfl, rfl, fun k hk hlt => ?_⟩
  rw [scatter_get (by omega) hk (hmax ▸ hlt), htc, hmax]
  rfl

/-- The RCD follows the pseudocode of CAVLC_BLOCK from its start on (R100). -/
theorem follows_cavlc (hb : s.busy = true) (hmax : s.maxNum ≤ 16) :
    Follows State.bits (pCavlc s.maxNum s.work.nC.toInt) (CavlcRead s.work.maxN) (startCavlc s) := by
  unfold pCavlc
  refine follows_vlc (found := coeffTokenFound) hb rfl ?_ ?_
  · rintro _ ⟨bits, log, count, code, rfl⟩
    simp only [rcdStep, startCavlc, hb, if_true]
    rfl
  · rintro ⟨tc, t1⟩ _ ⟨bits, log, count, code, rfl⟩
    refine follows_check _ ⟨rfl, rfl, rfl⟩ fun hle => ?_
    by_cases h0 : tc = 0
    · subst h0
      rw [if_pos rfl, if_pos rfl]
      exact ⟨⟨rfl, rfl, rfl⟩, follows_give hb (cavlcRead_of_zero rfl rfl rfl rfl rfl)⟩
    · rw [if_neg h0, if_neg h0]
      have htc : tc ≤ s.maxNum := not_lt.mp hle
      exact ⟨(nextLevel_goesOn _).carries, follows_levelsAndRuns hb rfl rfl rfl rfl rfl (Nat.pos_of_ne_zero h0)
        (htc.trans hmax)⟩

/-- An accepted CAVLC_BLOCK follows its pseudocode on the answers of the bit port. -/
theorem acceptedCavlc_follows {maxN : BitVec 7} {nC : BitVec 6} (s : State) (hlegal : cavlcLegal maxN nC = true) :
    Follows State.bits (pCavlc maxN.toNat nC.toInt) (CavlcRead maxN) (accepted (.cavlcBlock maxN nC) s) := by
  have hmaxN : maxNField (encode (.cavlcBlock maxN nC)) = maxN := maxNField_cmd32 ..
  have hnC : nCField (encode (.cavlcBlock maxN nC)) = nC := nCField_cmd32 ..
  have h := follows_cavlc (s := latch (encode (.cavlcBlock maxN nC))
    { s with cmd := encode (.cavlcBlock maxN nC), done := false }) rfl
    (by rw [State.maxNum, latch_maxN, hmaxN]; exact (cavlcLegal_bounds hlegal).2)
  rwa [State.maxNum, latch_maxN, latch_nC, hmaxN, hnC] at h

theorem rcdStep_of_cavlcFinish (hb : s.busy = true) (hp : s.work.phase = .cavlcFinish) :
    rcdStep s = cavlcFinishStep s := by
  simp only [rcdStep, hb, hp, if_true]

/-- A run stops with the step that ends the command. -/
theorem runOn_of_end {n : Nat} (h : (rcdStep (rcdSteps n s)).busy = false) : runOn s = rcdStep (rcdSteps n s) := by
  have hsteps : rcdSteps (n + 1) s = rcdStep (rcdSteps n s) := rcdSteps_add n 1 s
  rw [← hsteps] at h ⊢
  exact runOn_eq_of_fixed (rcdStep_of_not_busy h)

/-- A run that reaches the last phase of CAVLC_BLOCK finishes the block and stops. -/
theorem runOn_of_cavlcFinish {n : Nat} (hb : (rcdSteps n s).busy = true)
    (hp : (rcdSteps n s).work.phase = .cavlcFinish) : runOn s = cavlcFinishStep (rcdSteps n s) := by
  have hstep := rcdStep_of_cavlcFinish hb hp
  rw [runOn_of_end (by rw [hstep]; rfl), hstep]

/-- Completion writes the block read and the registers of R117. -/
theorem completed_cavlcFinishStep {maxN : BitVec 7} {nC : BitVec 6} {b : Block} {log : List Transaction}
    (hframe : CommandFrame (.cavlcBlock maxN nC) maxN.toNat s (cavlcFinishStep u)) (hs : s.Ready)
    (hread : CavlcRead maxN b u) (hout : KeepsOutcome (accepted (.cavlcBlock maxN nC) s) u)
    (hcount : u.work.count = log.length) (hlog : u.portLog = log.reverse ++ s.portLog)
    (hlength : b.coefs.length = maxN.toNat) :
    Completed (.cavlcBlock maxN nC) maxN.toNat b log s (cavlcFinishStep u) := by
  obtain ⟨-, -, -, -, -, hcoef, -, hkept⟩ := hframe
  obtain ⟨hb, he, -⟩ := hs
  obtain ⟨hovr, hcmd⟩ := hkept hb he
  refine ⟨rfl, rfl, hout.err.trans he, hovr, hout.errCode, hout.errSe, hout.errIdx, hcmd,
    congrArg (BitVec.ofNat 32) hread.tc, congrArg (BitVec.ofNat 32) hread.t1, congrArg (BitVec.ofNat 32) hread.tz,
    ?_, ?_, congrArg (BitVec.ofNat 32) hcount, hlog, hlength, fun k hk => ⟨hread.coef k hk, hcoef k hk⟩⟩
  · rw [← hread.numCoeff, ← hread.tc, ← hread.tz]
    rfl
  · rw [← hread.cbf, ← hread.tc]
    rfl

end

/-! ### How the run of a command ends -/

section
variable {α : Type} {port : State → List Answer} {p : Parser α} {Q : α → State → Prop} {i : Instr} {s t : State}

/-- Where the pseudocode raises an error the run ends with it. -/
theorem runOn_of_error {c : ErrorCode} {se : SyntaxElement} {idx : Nat} {log : List Transaction} {rest : List Answer}
    (h : Follows port p Q s) (hp : p (port s) = .error c se idx log rest) :
    ∃ u, runOn s = raiseDecode c se idx u ∧ Reaches port log rest s u := by
  rw [Follows, hp] at h
  obtain ⟨u, hu, hreach⟩ := h
  exact ⟨u, hu ▸ runOn_eq_of_fixed (rcdStep_of_not_busy (by rw [hu, raiseDecode_busy])), hreach⟩

/-- Where the pseudocode waits the run ends BUSY. -/
theorem runOn_of_waiting {log : List Transaction} (h : Follows port p Q s) (hp : p (port s) = .waiting log) :
    (runOn s).busy = true := by
  rw [Follows, hp] at h
  obtain ⟨-, hb, hfix⟩ := h
  rwa [runOn_eq_of_fixed hfix]

/-- A BUSY command has neither completed nor raised an error, and an ended one has not done both (R23). -/
def OneEnd (s : State) : Prop := (s.busy = true → s.done = false ∧ s.err = false) ∧ (s.err = true → s.done = false)

theorem Progress.oneEnd {o : BitVec 4} (h : Progress o s t) (hb : s.busy = true) (hs : OneEnd s) : OneEnd t := by
  obtain ⟨hd, he⟩ := hs.1 hb
  obtain ⟨w, c, rfl, -, -⟩ | ⟨code, se, idx, w, c, rfl, -⟩ | ⟨tc, t1, tz, n, b, w, c, rfl, -⟩ := h
  · exact hs
  · simp [OneEnd, hd]
  · simp [OneEnd, he]

theorem rcdStep_oneEnd (s : State) (hs : OneEnd s) : OneEnd (rcdStep s) := by
  cases hb : s.busy with
  | false => rwa [rcdStep_of_not_busy hb]
  | true =>
    obtain ⟨u, hu, ht⟩ := rcdStep_steps s hb
    exact ht.oneEnd (hu.busy.trans hb) (by cases hu <;> exact hs)

theorem exec_oneEnd (hs : s.Ready) (hwf : i.wellFormed = true) (ht : exec i s = .next t) : OneEnd t := by
  rw [exec_of_wellFormed hs hwf] at ht
  cases ht
  exact proceed_keeps rcdStep_oneEnd _ ((startOf_progress i _).oneEnd rfl ⟨fun _ => ⟨rfl, hs.2.1⟩, fun _ => rfl⟩)

/-- A command that has ended in the step of its acceptance had no event to wait for, and has run on alone (R61). -/
theorem exec_ended (hs : s.Ready) (hwf : i.wellFormed = true) (ht : exec i s = .next t) (hend : t.busy = false) :
    s.env = [] ∧ t = runOn (accepted i s) := by
  have hproceed := exec_of_wellFormed hs hwf
  have henv : s.env = [] := by
    by_contra henv
    rw [proceed_of_events ((accepted_keepsControl i s).env ▸ henv), ht] at hproceed
    cases hproceed
    simp [(accepted_flags i s).1] at hend
  rw [exec_ready hs henv hwf] at ht
  cases ht
  exact ⟨henv, rfl⟩

/-- A command that ends with an error of the pseudocode (R210, R212, R213). -/
theorem failed_of_raise {n : Nat} {c : ErrorCode} {se : SyntaxElement} {idx : Nat} {log : List Transaction} {u : State}
    (hframe : CommandFrame i n s t) (hs : s.Ready) (ht : t = raiseDecode c se idx u) (hend : OneEnd t)
    (hcount : u.work.count = log.countP answered) (hlog : u.portLog = log.reverse ++ s.portLog) :
    Failed i n c se idx log s t := by
  obtain ⟨-, -, -, -, -, hcoef, -, hkept⟩ := hframe
  obtain ⟨hovr, hcmd⟩ := hkept hs.1 hs.2.1
  have herr : t.err = true := by rw [ht, raiseDecode_err]
  exact ⟨by simp [ht], hend.2 herr, herr, hovr, hcmd, by simp [ht], by simp [ht], by simp [ht], by simp [ht, hcount],
    by simp [ht, hlog], hcoef⟩

end

/-- Settles O12: the run of the accepted command follows the pseudocode up to the error. -/
theorem cavlcBlockRaises : Obligations.CavlcBlockRaises := by
  intro maxN nC s c se idx log rest hready henv hlegal hparse
  have hexec := exec_ready (i := .cavlcBlock maxN nC) hready henv hlegal
  obtain ⟨u, hu, hrest, hlog, hcount⟩ := runOn_of_error (acceptedCavlc_follows s hlegal) hparse
  obtain ⟨hframe, hbins, -⟩ := cavlcBlockFrame maxN nC s _ hexec
  have hone := exec_oneEnd (i := .cavlcBlock maxN nC) hready hlegal hexec
  refine ⟨_, hexec, failed_of_raise hframe hready hu hone ?_ hlog, ?_, hbins⟩
  · rw [hcount]
    exact Nat.zero_add _
  · rw [hu, raiseDecode_bits, hrest]

end Sys2Proof.Machine

/-! ## What the pseudocode can give and raise -/

namespace Sys2Proof.Machine

open Sys2Proof.Claims

/-- A value given has the property `V`, an error raised the property `E`. -/
def Parsed.Meets {α : Type} (E : ErrorCode → SyntaxElement → Nat → Prop) (V : α → Prop) : Parsed α → Prop
  | .got v _ _ => V v
  | .error c se idx _ _ => E c se idx
  | .waiting _ => True

/-- Whatever the port answers, a value that `p` gives has the property `V`, and an error it raises the property `E`. -/
def Outcomes {α : Type} (E : ErrorCode → SyntaxElement → Nat → Prop) (V : α → Prop) (p : Parser α) : Prop :=
  ∀ l, (p l).Meets E V

section
variable {α β : Type} {E : ErrorCode → SyntaxElement → Nat → Prop} {V : α → Prop} {W : β → Prop} {p : Parser α}
  {f : α → Parser β} {se : SyntaxElement} {idx : Nat}

theorem meets_after {r : Parsed α} (log : List Transaction) : (r.after log).Meets E V ↔ r.Meets E V := by
  cases r <;> rfl

theorem Outcomes.got (h : Outcomes E V p) {l rest : List Answer} {v : α} {log : List Transaction}
    (hp : p l = .got v log rest) : V v := by
  have := h l
  rwa [hp] at this

theorem Outcomes.error (h : Outcomes E V p) {l rest : List Answer} {c : ErrorCode} {log : List Transaction}
    (hp : p l = .error c se idx log rest) : E c se idx := by
  have := h l
  rwa [hp] at this

theorem Outcomes.mono {V' : α → Prop} (h : Outcomes E V p) (hV : ∀ v, V v → V' v) : Outcomes E V' p := by
  intro l
  have hl := h l
  cases hres : p l <;> rw [hres] at hl
  case got v log rest => exact hV v hl
  case error => exact hl
  case waiting => trivial

theorem outcomes_give {v : α} (h : V v) : Outcomes E V (pGive v) := fun _ => h

theorem outcomes_raise {c : ErrorCode} (h : E c se idx) : Outcomes E V (pRaise c se idx) := fun _ => h

theorem outcomes_then (hp : Outcomes E V p) (hf : ∀ v, V v → Outcomes E W (f v)) : Outcomes E W (pThen p f) := by
  intro l
  have hpl := hp l
  unfold pThen
  cases hres : p l <;> rw [hres] at hpl
  case got v log rest => exact (meets_after log).mpr (hf v hpl rest)
  case error => exact hpl
  case waiting => trivial

theorem outcomes_map {g : α → β} (hp : Outcomes E V p) (hg : ∀ v, V v → W (g v)) :
    Outcomes E W (pThen p fun v => pGive (g v)) := outcomes_then hp fun v hv => outcomes_give (hg v hv)

/-- A check with its error (R103, R113, R114). -/
theorem outcomes_check {c : ErrorCode} (wrong : Prop) [Decidable wrong] (h : E c se idx)
    (hp : ¬ wrong → Outcomes E V p) : Outcomes E V (if wrong then pRaise c se idx else p) := by
  split
  next => exact outcomes_raise h
  next hok => exact hp hok

theorem outcomes_read (record : Answer → Transaction) (h : E .endOfStream se idx) :
    Outcomes E (fun _ => True) (pRead record se idx)
  | [] => trivial
  | .bit _ :: _ => trivial
  | .eos :: _ => h

/-- A codeword read is one of the table (R101). -/
theorem outcomes_vlc {T : VlcTable α} (heos : E .endOfStream se idx) (hbad : E .invalidSyntax se idx) (w : List Bool) :
    Outcomes E (fun v => ∃ w, (w, v) ∈ T) (pVlc T se idx w) := by
  intro l
  induction l generalizing w with
  | nil => trivial
  | cons a l ih =>
    cases a with
    | eos => exact heos
    | bit b =>
      rw [pVlc]
      cases hm : vlcMatch T (w ++ [b]) with
      | codeword v => exact ⟨_, vlcMatch_codeword hm⟩
      | unfinished => exact (meets_after _).mpr (ih _)
      | invalid => exact hbad

end

/-! ### CAVLC_BLOCK -/

/-- The errors that a CAVLC_BLOCK can end with (R121). -/
def CavlcError (c : ErrorCode) (se : SyntaxElement) (idx : Nat) : Prop :=
  (c = .invalidSyntax ∨ c = .streamCorrupt ∨ c = .endOfStream) ∧ 1 ≤ se.code ∧ se.code ≤ 6 ∧ idx ≤ 15

/-- A level of R118: not 0, and of magnitude below 2^28. -/
def LevelOk (v : Int) : Prop := v ≠ 0 ∧ v.natAbs < 2 ^ 28

/-- The block of R119: `tc` levels, the highest just below `numCoeff`. -/
structure BlockOk (maxN : Nat) (b : Block) : Prop where
  length : b.coefs.length = maxN
  bound : ∀ v ∈ b.coefs, v.natAbs < 2 ^ 28
  count : b.coefs.countP (· ≠ 0) = b.tc
  t1 : b.t1 ≤ min 3 b.tc
  cbf : b.cbf = decide (0 < b.tc)
  numCoeff : b.numCoeff = if b.tc = 0 then 0 else b.tc + b.tz
  numCoeff_le : b.numCoeff ≤ maxN
  top : ∀ k, k + 1 = b.numCoeff → b.coefs.getD k 0 ≠ 0
  above : ∀ k, b.numCoeff ≤ k → b.coefs.getD k 0 = 0

section
variable {idx i n : Nat}

theorem outcomes_levelPrefix (hidx : idx ≤ 15) {lz : Nat} (hlz : lz ≤ 31) :
    Outcomes CavlcError (· ≤ 31) (pLevelPrefix idx lz) := by
  intro l
  induction l generalizing lz with
  | nil => trivial
  | cons a l ih =>
    rcases a with ⟨_ | _⟩ | _
    · rw [pLevelPrefix.eq_def]
      dsimp only
      split
      next => exact ⟨.inl rfl, by decide, by decide, hidx⟩
      next hle => exact (meets_after _).mpr (ih (not_lt.mp hle))
    · exact hlz
    · exact ⟨.inr (.inr rfl), by decide, by decide, hidx⟩

/-- A value of `n` bits (R12). -/
theorem outcomes_bits (hidx : idx ≤ 15) (n acc : Nat) :
    Outcomes CavlcError (· < (acc + 1) * 2 ^ n) (pBits .levelSuffix idx n acc) := by
  induction n generalizing acc with
  | zero => exact outcomes_give (by omega)
  | succ n ih =>
    refine outcomes_then (outcomes_read _ ⟨.inr (.inr rfl), by decide, by decide, hidx⟩) fun b _ => ?_
    refine (ih (2 * acc + b.toNat)).mono fun v hv => hv.trans_le ?_
    rw [pow_succ', ← mul_assoc]
    exact Nat.mul_le_mul_right _ (by have := b.toNat_le; omega)

theorem levelOfCode_ok {c : Nat} (h : c + 2 < 2 ^ 29) : LevelOk (levelOfCode c) := by
  refine ⟨?_, levelOfCode_bound h⟩
  unfold levelOfCode
  split <;> omega

theorem outcomes_level (hi : i ≤ 15) {sl : Nat} (hsl : sl ≤ 6) (bias : Bool) :
    Outcomes CavlcError LevelOk (pLevel i sl bias) :=
  outcomes_then (outcomes_levelPrefix hi (Nat.zero_le _)) fun _ hp => outcomes_map (outcomes_bits hi _ 0) fun _ hs =>
    levelOfCode_ok (levelCodeOf_bound bias hp hsl (by simpa using hs))

theorem outcomes_levels (t1 : Nat) (hn : i + n ≤ 16) {sl : Nat} (hsl : sl ≤ 6) :
    Outcomes CavlcError (fun vs => vs.length = n ∧ ∀ v ∈ vs, LevelOk v) (pLevels t1 n i sl) := by
  induction n generalizing i sl with
  | zero => exact outcomes_give ⟨rfl, nofun⟩
  | succ n ih =>
    have hnext : ∀ v sl, LevelOk v → sl ≤ 6 → Outcomes CavlcError (fun vs => vs.length = n + 1 ∧ ∀ v ∈ vs, LevelOk v)
        (pThen (pLevels t1 n (i + 1) sl) fun vs => pGive (v :: vs)) := fun v sl hv hsl =>
      outcomes_map (ih (by omega) hsl) fun vs ⟨hlen, hvs⟩ =>
        ⟨congrArg (· + 1) hlen, List.forall_mem_cons.mpr ⟨hv, hvs⟩⟩
    rw [pLevels]
    split
    next =>
      exact outcomes_then (outcomes_read _ ⟨.inr (.inr rfl), by decide, by decide, by omega⟩) fun b _ =>
        hnext _ _ ⟨by cases b <;> decide, trailingOneLevel_bound b⟩ hsl
    next =>
      exact outcomes_then (outcomes_level (by omega) hsl _) fun v hv => hnext v _ hv (nextSuffixLength_le v hsl)

theorem outcomes_totalZeros {maxN tc : Nat} (htc : tc ≤ maxN) :
    Outcomes CavlcError (fun tz => tc + tz ≤ maxN) (pTotalZeros maxN tc) := by
  unfold pTotalZeros
  split
  next =>
    refine outcomes_then (outcomes_vlc ⟨.inr (.inr rfl), by decide, by decide, by decide⟩
      ⟨.inl rfl, by decide, by decide, by decide⟩ _) fun tz _ => ?_
    exact outcomes_check _ ⟨.inr (.inl rfl), by decide, by decide, by decide⟩ fun _ => outcomes_give (by omega)
  next => exact outcomes_give (by omega)

theorem outcomes_runs (hn : i + n ≤ 16) (z : Nat) :
    Outcomes CavlcError (fun rs => rs.length = n + 1 ∧ rs.sum = z) (pRuns n i z) := by
  induction n generalizing i z with
  | zero => exact outcomes_give ⟨rfl, rfl⟩
  | succ n ih =>
    have hi : i ≤ 15 := by omega
    rw [pRuns]
    split
    next =>
      refine outcomes_then (outcomes_vlc ⟨.inr (.inr rfl), by decide, by decide, hi⟩
        ⟨.inl rfl, by decide, by decide, hi⟩ _) fun rb _ => ?_
      refine outcomes_check _ ⟨.inr (.inl rfl), by decide, by decide, hi⟩ fun hle => ?_
      refine outcomes_map (ih (by omega) _) fun rs ⟨hlen, hsum⟩ => ⟨congrArg (· + 1) hlen, ?_⟩
      rw [List.sum_cons, hsum]
      omega
    next =>
      refine outcomes_map (ih (by omega) _) fun rs ⟨hlen, hsum⟩ => ⟨congrArg (· + 1) hlen, ?_⟩
      rw [List.sum_cons, hsum]
      omega

end

/-! ### The scattered block -/

/-- The first level is the highest (R116). -/
theorem scatterList_cons (v : Int) (vs : List Int) (r : Nat) (rs : List Nat) :
    scatterList (v :: vs) (r :: rs) = scatterList vs rs ++ (List.replicate r 0 ++ [v]) := by
  simp [scatterList]

section
variable {levels : List Int} {runs : List Nat}

theorem scatterList_length (h : levels.length = runs.length) :
    (scatterList levels runs).length = levels.length + runs.sum := by
  induction levels generalizing runs with
  | nil =>
    obtain rfl := List.length_eq_zero_iff.mp h.symm
    rfl
  | cons v vs ih =>
    obtain _ | ⟨r, rs⟩ := runs
    · cases h
    · rw [scatterList_cons, List.length_append, ih (Nat.succ.inj h)]
      simp
      omega

theorem scatterList_count (h : levels.length = runs.length) (hlevels : ∀ v ∈ levels, v ≠ 0) :
    (scatterList levels runs).countP (· ≠ 0) = levels.length := by
  induction levels generalizing runs with
  | nil => rfl
  | cons v vs ih =>
    obtain _ | ⟨r, rs⟩ := runs
    · cases h
    · obtain ⟨hv, hvs⟩ := List.forall_mem_cons.mp hlevels
      rw [scatterList_cons, List.countP_append, ih (Nat.succ.inj h) hvs]
      simp [hv, List.countP_replicate]

theorem mem_scatterList {x : Int} (h : x ∈ scatterList levels runs) : x = 0 ∨ x ∈ levels := by
  simp only [scatterList, List.mem_flatMap, List.mem_reverse, List.mem_append, List.mem_replicate,
    List.mem_singleton] at h
  obtain ⟨⟨v, r⟩, hmem, ⟨-, rfl⟩ | rfl⟩ := h
  · exact .inl rfl
  · exact .inr (List.of_mem_zip hmem).1

theorem blockOk_of_zero {maxN t1 : Nat} (ht1 : t1 ≤ 0) :
    BlockOk maxN { coefs := padBlock maxN [], tc := 0, t1 := t1, tz := 0, numCoeff := 0, cbf := false } := by
  refine ⟨padBlock_length (Nat.zero_le _), ?_, ?_, by simpa using ht1, rfl, rfl, Nat.zero_le _, nofun, fun k _ => ?_⟩
  · simp +contextual [padBlock]
  · simp [padBlock, List.countP_replicate]
  · rw [padBlock_getD]
    rfl

/-- The block of levels that are not 0 and of runs that fit (R119). -/
theorem blockOk_of_scatter {maxN tc t1 tz : Nat} (hlen : levels.length = tc) (hlevels : ∀ v ∈ levels, LevelOk v)
    (hruns : runs.length = tc) (hsum : runs.sum = tz) (h0 : 0 < tc) (ht1 : t1 ≤ 3 ∧ t1 ≤ tc) (hle : tc + tz ≤ maxN) :
    BlockOk maxN
      { coefs := padBlock maxN (scatterList levels runs), tc := tc, t1 := t1, tz := tz, numCoeff := tc + tz
        cbf := true } := by
  have hlen' : (scatterList levels runs).length = tc + tz := by rw [scatterList_length (by omega), hlen, hsum]
  refine ⟨padBlock_length (by omega), fun v hv => ?_, ?_, by simpa using ht1, (decide_eq_true h0).symm,
    (if_neg h0.ne').symm, hle, fun k hk => ?_, fun k hk => ?_⟩
  · obtain hv | hv := List.mem_append.mp hv
    · obtain rfl | hv := mem_scatterList hv
      · decide
      · exact (hlevels v hv).2
    · rw [List.eq_of_mem_replicate hv]
      decide
  · rw [padBlock, List.countP_append, scatterList_count (by omega) fun v hv => (hlevels v hv).1, hlen]
    simp [List.countP_replicate]
  · replace hk : k + 1 = tc + tz := hk
    obtain ⟨v, vs, rfl⟩ := List.exists_cons_of_length_pos (hlen ▸ h0)
    obtain ⟨r, rs, rfl⟩ := List.exists_cons_of_length_pos (hruns ▸ h0)
    rw [padBlock_getD, hlen', if_pos (by omega)]
    rw [scatterList_cons, ← List.append_assoc] at hlen' ⊢
    rw [List.length_append, List.length_singleton, ← hk] at hlen'
    rw [← Nat.succ.inj hlen', List.getD_append_right _ _ _ _ le_rfl, Nat.sub_self]
    exact (hlevels v List.mem_cons_self).1
  · rw [padBlock_getD, hlen', if_neg (not_lt.mpr hk)]

end

/-- What the pseudocode of CAVLC_BLOCK can give and raise (R119, R121). -/
theorem outcomes_cavlc {maxN : Nat} (nC : Int) (hmax : maxN ≤ 16) :
    Outcomes CavlcError (BlockOk maxN) (pCavlc maxN nC) := by
  refine outcomes_then (outcomes_vlc ⟨.inr (.inr rfl), by decide, by decide, by decide⟩
    ⟨.inl rfl, by decide, by decide, by decide⟩ _) ?_
  rintro ⟨tc, t1⟩ ⟨w, hw⟩
  obtain ⟨-, -, ht1, ht1'⟩ := coeffTokenTable_rows nC _ hw
  refine outcomes_check _ ⟨.inr (.inl rfl), by decide, by decide, by decide⟩ fun hle => ?_
  dsimp only at hle ht1 ht1' ⊢
  split
  next h0 =>
    subst h0
    exact outcomes_give (blockOk_of_zero ht1')
  next h0 =>
    refine outcomes_then (outcomes_levels t1 (by omega) (initialSuffixLength_le tc t1)) fun levels ⟨hlen, hlevels⟩ => ?_
    refine outcomes_then (outcomes_totalZeros (not_lt.mp hle)) fun tz htz => ?_
    refine outcomes_map (outcomes_runs (by omega) tz) fun runs ⟨hruns, hsum⟩ => ?_
    exact blockOk_of_scatter hlen hlevels (by omega) hsum (by omega) ⟨ht1, ht1'⟩ htz

/-! ### How a CAVLC_BLOCK ends -/

/-- Settles O11: the run of the accepted command follows the pseudocode, one step a bit, and finishes the block. -/
theorem cavlcBlockCompletes : Obligations.CavlcBlockCompletes := by
  intro maxN nC s b log rest hready henv hlegal hparse
  have hblock := (outcomes_cavlc nC.toInt (cavlcLegal_bounds hlegal).2).got hparse
  have hfollows := acceptedCavlc_follows s hlegal
  rw [Follows, show (accepted (.cavlcBlock maxN nC) s).bits = s.bits from rfl, hparse] at hfollows
  obtain ⟨⟨hrest, hlog, hcount⟩, hanswered, hb, hread⟩ := hfollows
  rw [hanswered, show (accepted (.cavlcBlock maxN nC) s).work.count = 0 from rfl, Nat.zero_add] at hcount
  have hexec := exec_ready (i := .cavlcBlock maxN nC) hready henv hlegal
  rw [runOn_of_cavlcFinish hb hread.phase] at hexec
  obtain ⟨hframe, hbins, -⟩ := cavlcBlockFrame maxN nC s _ hexec
  exact ⟨_, hexec, completed_cavlcFinishStep hframe hready hread (rcdSteps_keepsOutcome hb).2 hcount hlog
    hblock.length, hrest, hbins⟩

/-- Where a CAVLC_BLOCK has completed, its pseudocode has given a block. -/
theorem completed_of_done {maxN : BitVec 7} {nC : BitVec 6} {s t : State} (hs : s.Ready)
    (hlegal : cavlcLegal maxN nC = true) (ht : exec (.cavlcBlock maxN nC) s = .next t) (hdone : t.done = true) :
    ∃ b log, BlockOk maxN.toNat b ∧ Completed (.cavlcBlock maxN nC) maxN.toNat b log s t := by
  have hone := exec_oneEnd (i := .cavlcBlock maxN nC) hs hlegal ht
  have hend : t.busy = false := by
    by_contra hb
    simp [(hone.1 (by simpa using hb)).1] at hdone
  obtain ⟨henv, hrun⟩ := exec_ended (i := .cavlcBlock maxN nC) hs hlegal ht hend
  cases hparse : pCavlc maxN.toNat nC.toInt s.bits with
  | got b log rest =>
    obtain ⟨t', ht', hcompleted, -⟩ := cavlcBlockCompletes maxN nC s b log rest hs henv hlegal hparse
    cases ht.symm.trans ht'
    exact ⟨b, log, (outcomes_cavlc _ (cavlcLegal_bounds hlegal).2).got hparse, hcompleted⟩
  | error c se idx log rest =>
    obtain ⟨t', ht', ⟨-, hnot, -⟩, -⟩ := cavlcBlockRaises maxN nC s c se idx log rest hs henv hlegal hparse
    cases ht.symm.trans ht'
    simp [hnot] at hdone
  | waiting log =>
    rw [hrun, runOn_of_waiting (acceptedCavlc_follows s hlegal) hparse] at hend
    cases hend

/-- A level in a COEF entry reads back (R32, R118). -/
theorem coefWord_toInt {v : Int} (h : v.natAbs < 2 ^ 28) : (coefWord v).toInt = v :=
  BitVec.toInt_ofInt_eq_self (by decide) (by omega) (by omega)

theorem coefWord_eq_zero {v : Int} (h : v.natAbs < 2 ^ 28) : coefWord v = 0 ↔ v = 0 := by
  rw [← BitVec.toInt_inj, coefWord_toInt h]
  rfl

/-- An entry of a list with a bound. -/
theorem natAbs_getD_lt {xs : List Int} {m : Nat} (hm : 0 < m) (h : ∀ v ∈ xs, v.natAbs < m) (k : Nat) :
    (xs.getD k 0).natAbs < m := by
  rw [List.getD_eq_getElem?_getD]
  cases hk : xs[k]? with
  | none => exact hm
  | some v => exact h v (List.mem_of_getElem? hk)

/-- Settles O18: the entries are those of the block, whose levels are of magnitude below 2^28. -/
theorem cavlcLevelsFit : Obligations.CavlcLevelsFit := by
  intro maxN nC s t hs hlegal ht hdone k hk hlt
  obtain ⟨b, log, hb, -, -, -, -, -, -, -, -, -, -, -, -, -, -, -, -, hcoef⟩ := completed_of_done hs hlegal ht hdone
  have hbound := natAbs_getD_lt (by decide) hb.bound k
  rw [(hcoef k hk).1 hlt, coefWord_toInt hbound]
  exact hbound

/-- COEF below maxN is the block. -/
theorem take_coef {n : Nat} {b : Block} {t : State} (hn : n ≤ 64) (hlength : b.coefs.length = n)
    (hcoef : ∀ (k : Nat) (h : k < 64), k < n → t.coef[k] = coefWord (b.coefs.getD k 0)) :
    t.coef.toList.take n = b.coefs.map coefWord := by
  refine List.ext_getElem (by simp [hlength, hn]) fun k hk hk' => ?_
  have hlt : k < n := by simp at hk; omega
  rw [List.getElem_take, Vector.getElem_toList, hcoef k (by omega) hlt, List.getElem_map, List.getD_eq_getElem]

theorem toNat_ofNat_small {n : Nat} (h : n ≤ 16) : (BitVec.ofNat 32 n).toNat = n := by
  rw [BitVec.toNat_ofNat, Nat.mod_eq_of_lt (by omega)]

theorem ofNat_small_eq_zero {n : Nat} (h : n ≤ 16) : BitVec.ofNat 32 n = 0 ↔ n = 0 := by
  rw [← BitVec.toNat_inj, toNat_ofNat_small h]
  rfl

/-- Settles O17: the entries and the result registers are those of a block with the properties of R119. -/
theorem cavlcScatterInvariants : Obligations.CavlcScatterInvariants := by
  intro maxN nC s t hs hlegal ht hdone
  obtain ⟨b, log, hb, -, -, -, -, -, -, -, -, htc, ht1, htz, hnum, hcbf, -, -, hlength, hcoef⟩ :=
    completed_of_done hs hlegal ht hdone
  obtain ⟨-, hmax⟩ := cavlcLegal_bounds hlegal
  have hle := hb.numCoeff_le
  have hnum' := hb.numCoeff
  have hnumNat : t.resNumCoeff.toNat = b.numCoeff := by rw [hnum, toNat_ofNat_small (by omega)]
  have htc16 : b.tc ≤ 16 := by split at hnum' <;> omega
  have hzero : t.resTc = 0 ↔ b.tc = 0 := by rw [htc, ofNat_small_eq_zero htc16]
  have htcNat : t.resTc.toNat = b.tc := by rw [htc, toNat_ofNat_small htc16]
  have hentry : ∀ k (hk : k < 64), k < maxN.toNat → (t.coef[k] = 0 ↔ b.coefs.getD k 0 = 0) := fun k hk hlt => by
    rw [(hcoef k hk).1 hlt, coefWord_eq_zero (natAbs_getD_lt (by decide) hb.bound k)]
  refine ⟨?_, ?_, hnumNat ▸ hle, ?_, ?_, fun k hk => ⟨fun htop => ?_, fun habove hlt => ?_⟩⟩
  · rw [nonzeroCount, take_coef (by omega) hlength fun k hk => (hcoef k hk).1, List.countP_map, htcNat, ← hb.count]
    refine List.countP_congr fun v hv => ?_
    simpa using (coefWord_eq_zero (hb.bound v hv)).not
  · rw [hnumNat, hnum']
    by_cases h0 : b.tc = 0
    · rw [if_pos h0, if_pos (hzero.mpr h0)]
    · rw [if_neg h0] at hnum' ⊢
      rw [if_neg (hzero.not.mpr h0), htcNat, htz, toNat_ofNat_small (by omega)]
  · rw [hcbf, hb.cbf, Ne, hzero]
    by_cases h0 : b.tc = 0 <;> simp [h0, Nat.pos_iff_ne_zero]
  · have := hb.t1
    rw [ht1, htcNat, toNat_ofNat_small (by omega)]
    exact this
  · rw [hnumNat] at htop
    rw [Ne, hentry k hk (by omega)]
    exact hb.top k htop
  · rw [hentry k hk hlt]
    exact hb.above k (hnumNat ▸ habove)

end Sys2Proof.Machine

/-! ## Bit strings that a part of the pseudocode reads exactly -/

namespace Sys2Proof.Machine

open Sys2Proof.Claims

@[simp] theorem asAnswers_append (w w' : List Bool) : asAnswers (w ++ w') = asAnswers w ++ asAnswers w' :=
  List.map_append

@[simp] theorem asReads_append (w w' : List Bool) : asReads (w ++ w') = asReads w ++ asReads w' := List.map_append

@[simp] theorem asReads_length (w : List Bool) : (asReads w).length = w.length := List.length_map _

/-- Every bit of a string is answered (R212). -/
@[simp] theorem countP_answered_asReads (w : List Bool) : (asReads w).countP answered = w.length := by
  rw [asReads, List.countP_map]
  exact List.countP_eq_length.mpr fun _ _ => rfl

/-- Whatever follows the bits `w`, `p` gives `v`, having read exactly them. -/
def Reads {α : Type} (p : Parser α) (w : List Bool) (v : α) : Prop :=
  ∀ rest, p (asAnswers w ++ rest) = .got v (asReads w) rest

section
variable {α β : Type} {p : Parser α} {f : α → Parser β} {w w' : List Bool} {v : α} {u : β}

theorem reads_give (v : α) : Reads (pGive v) [] v := fun _ => rfl

theorem Reads.pThen_eq (h : Reads p w v) (f : α → Parser β) (rest : List Answer) :
    pThen p f (asAnswers w ++ rest) = (f v rest).after (asReads w) := by
  rw [pThen, h rest]

theorem Reads.pThen (h : Reads p w v) (hf : Reads (f v) w' u) : Reads (pThen p f) (w ++ w') u := fun rest => by
  rw [asAnswers_append, List.append_assoc, h.pThen_eq, hf rest, asReads_append]
  rfl

theorem reads_coeffToken {nC : Int} {v : Nat × Nat} (hw : (w, v) ∈ coeffTokenTable nC) :
    Reads (pVlc (coeffTokenTable nC) .coeffToken 0 []) w v := (coeffTokenTable_isCode nC).pVlc_codeword hw

end

/-- The highest TotalCoeff of each column of coeff_token (R140). -/
theorem coeffTokenTable_tc {nC : Int} {w : List Bool} {v : Nat × Nat} (h : (w, v) ∈ coeffTokenTable nC) :
    v.1 ≤ if nC = -1 then 4 else if nC = -2 then 8 else 16 := by
  have hrows : ∀ row ∈ coeffTokenTable nC, row.2.1 ≤ if nC = -1 then 4 else if nC = -2 then 8 else 16 := by
    unfold coeffTokenTable
    split_ifs <;> decide
  exact hrows _ h

/-- Settles O14: the pseudocode gives the all-zero block after the codeword, so the command completes with it. -/
theorem cavlcZeroTotalCoeffReadsOnlyCoeffToken : Obligations.CavlcZeroTotalCoeffReadsOnlyCoeffToken := by
  intro maxN nC w t1 rest s hready henv hlegal hw hbits
  obtain ⟨-, -, -, ht1⟩ := coeffTokenTable_rows _ _ hw
  obtain rfl : t1 = 0 := Nat.le_zero.mp ht1
  have hparse : pCavlc maxN.toNat nC.toInt s.bits =
      .got { coefs := padBlock maxN.toNat [], tc := 0, t1 := 0, tz := 0, numCoeff := 0, cbf := false }
        (asReads w ++ []) rest := by
    rw [hbits]
    exact (reads_coeffToken hw).pThen_eq _ rest
  obtain ⟨t, ht, ⟨hb, hd, he, -, -, -, -, -, htc, ht1, htz, hnum, hcbf, hcount, -, -, hcoef⟩, hrest, -⟩ :=
    cavlcBlockCompletes maxN nC s _ _ _ hready henv hlegal hparse
  refine ⟨t, ht, hb, hd, he, hrest, by simpa using hcount, htc, ht1, htz, hnum, hcbf, fun k hk hlt => ?_⟩
  rw [(hcoef k hk).1 hlt, padBlock_getD]
  rfl

/-- Settles O15: only a column for 16 coefficients has such a codeword, and after it the pseudocode raises the error. -/
theorem cavlcTotalCoeffAboveBudgetIsCorrupt : Obligations.CavlcTotalCoeffAboveBudgetIsCorrupt := by
  intro maxN nC w tc t1 rest s hready henv hlegal hw habove hbits
  refine ⟨?_, ?_⟩
  · have htc : tc ≤ _ := coeffTokenTable_tc hw
    simp only [cavlcLegal, Bool.or_eq_true, Bool.and_eq_true, beq_iff_eq] at hlegal
    split_ifs at htc <;> omega
  · have hparse : pCavlc maxN.toNat nC.toInt s.bits = .error .streamCorrupt .coeffToken 0 (asReads w ++ []) rest := by
      rw [hbits, pCavlc, (reads_coeffToken hw).pThen_eq, if_pos habove]
      rfl
    obtain ⟨t, ht, ⟨hb, -, he, -, -, hcode, hse, hidx, hcount, -, -⟩, hrest, -⟩ :=
      cavlcBlockRaises maxN nC s _ _ _ _ _ hready henv hlegal hparse
    exact ⟨t, ht, hb, he, hcode, hse, hidx, hrest, by simpa using hcount⟩

/-! ## The errors of a command -/

/-- The errors that a CABAC_BLOCK can end with (R166). -/
def CabacError (c : ErrorCode) (se : SyntaxElement) (idx : Nat) : Prop :=
  (c = .invalidSyntax ∧ se = .coeffAbsLevelMinus1 ∨ c = .endOfStream) ∧ 8 ≤ se.code ∧ se.code ≤ 12 ∧ idx ≤ 63

section
variable {o : CabacOperands} {i gt1 eq1 : Nat}

/-- The only error of a bin is END_OF_STREAM (R58). -/
theorem outcomes_bin {se : SyntaxElement} (hse : 8 ≤ se.code ∧ se.code ≤ 12) (hi : i ≤ 63) {binIdx : Nat}
    {bypass : Bool} :
    Outcomes CabacError (fun _ => True) (pBin o se binIdx bypass i gt1 eq1) :=
  outcomes_read _ ⟨.inr rfl, hse.1, hse.2, hi⟩

theorem outcomes_scan {n : Nat} (hn : i + n ≤ 63) :
    Outcomes CabacError (fun ms => ms.length ≤ n + 1) (pScan o n i) := by
  induction n generalizing i with
  | zero => exact outcomes_give le_rfl
  | succ n ih =>
    have hnext : ∀ b, Outcomes CabacError (fun ms => ms.length ≤ n + 1 + 1)
        (pThen (pScan o n (i + 1)) fun ms => pGive (b :: ms)) := fun b =>
      outcomes_map (ih (by omega)) fun ms hms => Nat.succ_le_succ hms
    refine outcomes_then (outcomes_bin (by decide) (by omega)) fun sig _ => ?_
    split
    next =>
      refine outcomes_then (outcomes_bin (by decide) (by omega)) fun last _ => ?_
      split
      next => exact outcomes_give (by simp)
      next => exact hnext true
    next => exact hnext false

theorem outcomes_absPrefix (hi : i ≤ 63) (n p : Nat) :
    Outcomes CabacError (fun _ => True) (pAbsPrefix o i gt1 eq1 n p) := by
  induction n generalizing p with
  | zero => exact outcomes_give trivial
  | succ n ih =>
    refine outcomes_then (outcomes_bin (by decide) hi) fun b _ => ?_
    split
    next => exact ih _
    next => exact outcomes_give trivial

theorem outcomes_absUnary (hi : i ≤ 63) (n k suffix : Nat) :
    Outcomes CabacError (fun _ => True) (pAbsUnary o i gt1 eq1 n k suffix) := by
  induction n generalizing k suffix with
  | zero =>
    rw [pAbsUnary.eq_def]
    refine outcomes_then (outcomes_bin (by decide) hi) fun b _ => ?_
    exact outcomes_check (b = true) ⟨.inl ⟨rfl, rfl⟩, by decide, by decide, hi⟩ fun _ => outcomes_give trivial
  | succ n ih =>
    rw [pAbsUnary.eq_def]
    refine outcomes_then (outcomes_bin (by decide) hi) fun b _ => ?_
    split
    next => exact ih _ _
    next => exact outcomes_give trivial

theorem outcomes_absBits (hi : i ≤ 63) (k binIdx suffix : Nat) :
    Outcomes CabacError (fun _ => True) (pAbsBits o i gt1 eq1 k binIdx suffix) := by
  induction k generalizing binIdx suffix with
  | zero => exact outcomes_give trivial
  | succ k ih => exact outcomes_then (outcomes_bin (by decide) hi) fun b _ => ih _ _

theorem outcomes_absLevelMinus1 (hi : i ≤ 63) :
    Outcomes CabacError (fun _ => True) (pAbsLevelMinus1 o i gt1 eq1) := by
  refine outcomes_then (outcomes_absPrefix hi 14 0) fun p _ => ?_
  split
  next => exact outcomes_give trivial
  next =>
    refine outcomes_then (outcomes_absUnary hi _ 0 0) fun u _ => ?_
    exact outcomes_map (outcomes_absBits hi _ _ _) fun _ _ => trivial

theorem outcomes_walk {ms : List Bool} (hms : ms.length ≤ 64) (gt1 eq1 : Nat) :
    Outcomes CabacError (fun _ => True) (pWalk o ms gt1 eq1) := by
  induction ms generalizing gt1 eq1 with
  | nil => exact outcomes_give trivial
  | cons m below ih =>
    have hbelow : below.length ≤ 63 := Nat.succ_le_succ_iff.mp hms
    have hrec := fun gt1 eq1 => ih (by omega) gt1 eq1
    cases m with
    | false => exact outcomes_map (hrec gt1 eq1) fun _ _ => trivial
    | true =>
      refine outcomes_then (outcomes_absLevelMinus1 hbelow) fun absm1 _ => ?_
      refine outcomes_then (outcomes_bin (by decide) hbelow) fun sign _ => ?_
      refine outcomes_map (V := fun _ => True) ?_ fun _ _ => trivial
      split
      next => exact hrec _ _
      next => exact hrec _ _

/-- What the pseudocode of CABAC_BLOCK can raise (R166). -/
theorem outcomes_cabac (hmax : o.maxN.toNat ≤ 64) : Outcomes CabacError (fun _ => True) (pCabac o) := by
  refine outcomes_then (V := fun _ => True) ?_ fun cbf _ => ?_
  · unfold pCodedBlockFlag
    split
    next => exact outcomes_give trivial
    next => exact outcomes_bin (by decide) (by decide)
  · split
    next =>
      refine outcomes_then (outcomes_scan (by omega)) fun marks hmarks => ?_
      exact outcomes_map (outcomes_walk (by simp; omega) 0 0) fun _ _ => trivial
    next => exact outcomes_give trivial

end

section
variable {α : Type} {port : State → List Answer} {p : Parser α} {Q : α → State → Prop} {i : Instr} {s t : State}
  {E : ErrorCode → SyntaxElement → Nat → Prop} {V : α → Prop}

/-- A command that has ended in error records one that its pseudocode can raise. -/
theorem error_of_err (hs : s.Ready) (hwf : i.wellFormed = true) (ht : exec i s = .next t) (herr : t.err = true)
    (hfollows : Follows port p Q (accepted i s)) (hp : Outcomes E V p)
    (hgot : ∀ v log rest, s.env = [] → p (port (accepted i s)) = .got v log rest → t.err = false) :
    ∃ c se idx, E c se idx ∧ t.errCode = c.code ∧ t.errSe = BitVec.ofNat 8 se.code ∧ t.errIdx = BitVec.ofNat 8 idx := by
  have hend : t.busy = false := by
    by_contra hb
    simp [((exec_oneEnd hs hwf ht).1 (by simpa using hb)).2] at herr
  obtain ⟨henv, rfl⟩ := exec_ended hs hwf ht hend
  cases hparse : p (port (accepted i s)) with
  | got v log rest => simp [hgot v log rest henv hparse] at herr
  | error c se idx log rest =>
    obtain ⟨u, hu, -⟩ := runOn_of_error hfollows hparse
    exact ⟨c, se, idx, hp.error hparse, by rw [hu, raiseDecode_errCode], by rw [hu, raiseDecode_errSe],
      by rw [hu, raiseDecode_errIdx]⟩
  | waiting log =>
    rw [runOn_of_waiting hfollows hparse] at hend
    cases hend

end

/-- ZERO_BLOCK raises no error (R180). -/
theorem exec_zeroBlock_err {maxN : BitVec 7} {s t : State} (hs : s.Ready)
    (hwf : (Instr.zeroBlock maxN).wellFormed = true) (ht : exec (.zeroBlock maxN) s = .next t) : t.err = false := by
  rw [exec_of_wellFormed hs hwf] at ht
  cases ht
  refine (proceed_keeps (P := fun u => u.err = false ∧ (u.busy = true → u.work.phase = .zeroFinish)) ?_
    (accepted (.zeroBlock maxN) s) ⟨hs.2.1, fun _ => rfl⟩).1
  rintro u ⟨he, hp⟩
  cases hb : u.busy with
  | false =>
    rw [rcdStep_of_not_busy hb]
    exact ⟨he, hp⟩
  | true =>
    rw [rcdStep_of_zeroFinish hb (hp hb)]
    exact ⟨he, nofun⟩

/-- An element or an index in its field of ERRINFO (R25). -/
theorem toNat_ofNat_byte {n : Nat} (h : n ≤ 63) : (BitVec.ofNat 8 n).toNat = n := by
  rw [BitVec.toNat_ofNat, Nat.mod_eq_of_lt (by omega)]

/-- Settles O35: the errors are those that the pseudocode of each command can raise. -/
theorem decodingErrorCodes : Obligations.DecodingErrorCodes := by
  intro i s t hs hwf ht herr
  cases i with
  | cavlcBlock maxN nC =>
    obtain ⟨c, se, idx, ⟨hc, hse1, hse6, hidx⟩, hcode, hse', hidx'⟩ := error_of_err hs hwf ht herr
      (acceptedCavlc_follows s hwf) (outcomes_cavlc _ (cavlcLegal_bounds hwf).2) fun b log rest henv hparse => by
        obtain ⟨t', ht', ⟨-, -, he, -⟩, -⟩ := cavlcBlockCompletes maxN nC s b log rest hs henv hwf hparse
        cases ht.symm.trans ht'
        exact he
    rw [hcode, hse', hidx', toNat_ofNat_byte (by omega), toNat_ofNat_byte (by omega)]
    refine ⟨?_, hse1, hse6, hidx⟩
    obtain rfl | rfl | rfl := hc <;> decide
  | cabacBlock maxN cat =>
    obtain ⟨c, se, idx, ⟨hc, hse8, hse12, hidx⟩, hcode, hse', hidx'⟩ := error_of_err hs hwf ht herr
      (accepted_follows cat s hwf) (outcomes_cabac (cabacLegal_bounds hwf).2.1) fun b log rest henv hparse => by
        rw [show (accepted (.cabacBlock maxN cat) s).bins = s.bins from (startCabac_carriesOn _).1] at hparse
        obtain ⟨t', ht', ⟨-, -, he, -⟩, -⟩ := cabacBlockCompletes maxN cat s b log rest hs henv hwf hparse
        cases ht.symm.trans ht'
        exact he
    rw [hcode, hse', hidx', toNat_ofNat_byte (by omega), toNat_ofNat_byte (by omega)]
    obtain ⟨rfl, rfl⟩ | rfl := hc
    · exact ⟨by decide, hse8, hse12, by decide, fun _ => rfl, hidx⟩
    · exact ⟨by decide, hse8, hse12, by decide, nofun, hidx⟩
  | zeroBlock maxN => simp [exec_zeroBlock_err hs hwf ht] at herr

end Sys2Proof.Machine

/-! ## Every block has a code -/

namespace Sys2Proof.Machine

open Sys2Proof.Claims

/-- What can be read after `v` has been read. -/
theorem exists_reads_then {α β : Type} {p : Parser α} {f : α → Parser β} {w : List Bool} {v : α} {u : β}
    (h : Reads p w v) (hf : ∃ w', Reads (f v) w' u) : ∃ w, Reads (pThen p f) w u :=
  hf.imp' (w ++ ·) fun _ hw' => h.pThen hw'

/-! ### Levels -/

section
variable {se : SyntaxElement} {i : Nat}

theorem reads_bit (b : Bool) : Reads (pBit se i) [b] b := fun _ => rfl

/-- Every value of `n` bits can be read (R12). -/
theorem exists_reads_bits {n v : Nat} (acc : Nat) (hv : v < 2 ^ n) :
    ∃ w, Reads (pBits se i n acc) w (acc * 2 ^ n + v) := by
  induction n generalizing acc v with
  | zero => exact ⟨[], by rw [Nat.lt_one_iff.mp hv, pow_zero, Nat.mul_one]; exact reads_give acc⟩
  | succ n ih =>
    have hnext : ∀ b : Bool, ∀ v' < 2 ^ n, v = b.toNat * 2 ^ n + v' →
        ∃ w, Reads (pBits se i (n + 1) acc) w (acc * 2 ^ (n + 1) + v) := by
      rintro b v' hv' rfl
      obtain ⟨w, hw⟩ := ih (2 * acc + b.toNat) hv'
      refine ⟨[b] ++ w, ?_⟩
      rw [show acc * 2 ^ (n + 1) + (b.toNat * 2 ^ n + v') = (2 * acc + b.toNat) * 2 ^ n + v' by ring]
      exact (reads_bit b).pThen hw
    by_cases h : v < 2 ^ n
    · exact hnext false v h (by simp)
    · exact hnext true (v - 2 ^ n) (by omega) (by simp; omega)

/-- `n` zeros and a one are a level_prefix (R107). -/
theorem reads_levelPrefix {n lz : Nat} (h : lz + n ≤ Config.levelPrefixMax) :
    Reads (pLevelPrefix i lz) (List.replicate n false ++ [true]) (lz + n) := by
  induction n generalizing lz with
  | zero => exact fun _ => rfl
  | succ n ih =>
    have hn := ih (lz := lz + 1) (by omega)
    rw [Nat.add_right_comm, Nat.add_assoc] at hn
    rw [pLevelPrefix_eq_bit]
    refine (reads_bit false).pThen (w' := List.replicate n false ++ [true]) ?_
    rwa [if_neg (by decide), if_neg (by omega)]

/-- The +2 bias of the first level that is no trailing one (R109). -/
theorem levelCodeOf_bias (p sl suffix : Nat) : levelCodeOf p sl suffix true = levelCodeOf p sl suffix false + 2 := by
  simp [levelCodeOf]

/-- The levelCodes of a level_prefix below 15 (R108, R109). -/
theorem exists_levelCodeOf_short {c sl : Nat} (hc : c < if sl = 0 then 30 else 15 * 2 ^ sl) :
    ∃ p ≤ 14, ∃ suffix < 2 ^ suffixSize p sl, levelCodeOf p sl suffix false = c := by
  split at hc
  next h0 =>
    subst h0
    by_cases h : c < 14
    · refine ⟨c, by omega, 0, by positivity, ?_⟩
      rw [levelCodeOf, if_neg (by omega), if_neg (by omega), Nat.min_eq_right (by omega)]
      exact Nat.mul_one c
    · exact ⟨14, le_rfl, c - 14, by simp [suffixSize]; omega, by simp [levelCodeOf]; omega⟩
  next h0 =>
    have hp : c / 2 ^ sl < 15 := Nat.div_lt_of_lt_mul (by rwa [Nat.mul_comm])
    refine ⟨c / 2 ^ sl, by omega, c % 2 ^ sl, ?_, ?_⟩
    · rw [suffixSize, if_neg (by omega), if_neg (by omega)]
      exact Nat.mod_lt _ (by positivity)
    · rw [levelCodeOf, if_neg (by omega), if_neg (by omega), Nat.min_eq_right (by omega)]
      exact Nat.div_add_mod' c (2 ^ sl)

/-- The levelCodes of a level_prefix from 15 on: the suffix sizes 12 to 28 follow on each other (R108, R109). -/
theorem exists_levelCodeOf_escape {c sl : Nat} (hc : c < 2 ^ 28) (hge : (if sl = 0 then 30 else 15 * 2 ^ sl) ≤ c) :
    ∃ p ≤ 31, ∃ suffix < 2 ^ suffixSize p sl, levelCodeOf p sl suffix false = c := by
  obtain ⟨d, rfl⟩ := Nat.exists_eq_add_of_le hge
  have hlog : 12 ≤ Nat.log2 (d + 4096) := (Nat.le_log2 (by omega)).mpr (by omega)
  have hlog' : Nat.log2 (d + 4096) < 29 := (Nat.log2_lt (by omega)).mpr (by omega)
  have hle : 2 ^ Nat.log2 (d + 4096) ≤ d + 4096 := Nat.log2_self_le (by omega)
  have hlt : d + 4096 < 2 ^ (Nat.log2 (d + 4096) + 1) := Nat.lt_log2_self
  generalize Nat.log2 (d + 4096) = q at hlog hlog' hle hlt
  have hq : 2 ^ 12 ≤ 2 ^ q := Nat.pow_le_pow_right (by decide) hlog
  rw [pow_succ] at hlt
  refine ⟨q + 3, by omega, d + 4096 - 2 ^ q, ?_, ?_⟩
  · rw [suffixSize, if_neg (by omega), if_pos (by omega), Nat.add_sub_cancel]
    omega
  · have hextra : (if 16 ≤ q + 3 then 2 ^ q - 4096 else 0) = 2 ^ q - 4096 := by
      split
      next => rfl
      next =>
        obtain rfl : q = 12 := by omega
        rfl
    have hbase : 15 * 2 ^ sl + (if 15 ≤ q + 3 ∧ sl = 0 then 15 else 0) = if sl = 0 then 30 else 15 * 2 ^ sl := by
      by_cases h0 : sl = 0
      · rw [if_pos ⟨by omega, h0⟩, if_pos h0, h0]
        norm_num
      · rw [if_neg (fun h => h0 h.2), if_neg h0, Nat.add_zero]
    rw [levelCodeOf, Nat.add_sub_cancel, hextra, Nat.min_eq_left (by omega), ← hbase]
    simp only [Bool.false_eq_true, if_false]
    omega

/-- Every levelCode below 2^28 has a level_prefix and a level_suffix (R107 to R109). -/
theorem exists_levelCodeOf {c : Nat} (sl : Nat) (hc : c < 2 ^ 28) :
    ∃ p ≤ 31, ∃ suffix < 2 ^ suffixSize p sl, levelCodeOf p sl suffix false = c := by
  obtain hlt | hge := lt_or_ge c (if sl = 0 then 30 else 15 * 2 ^ sl)
  · obtain ⟨p, hp, h⟩ := exists_levelCodeOf_short hlt
    exact ⟨p, by omega, h⟩
  · exact exists_levelCodeOf_escape hc hge

/-- Every level but 0 has a levelCode (R110). -/
theorem exists_levelOfCode {v : Int} (h0 : v ≠ 0) (hv : v.natAbs ≤ 2 ^ 27) :
    ∃ c, levelOfCode c = v ∧ c < 2 ^ 28 ∧ 2 * v.natAbs ≤ c + 2 := by
  obtain hpos | hneg := lt_or_gt_of_ne h0.symm
  · refine ⟨2 * (v.natAbs - 1), ?_, by omega, by omega⟩
    rw [levelOfCode, if_pos (by omega)]
    omega
  · refine ⟨2 * v.natAbs - 1, ?_, by omega, by omega⟩
    rw [levelOfCode, if_neg (by omega)]
    omega

/-- Every level of magnitude up to 2^27 but 0 has a code; the bias leaves no room for 1 and -1 (R109). -/
theorem exists_reads_level {v : Int} {sl : Nat} {bias : Bool} (h0 : v ≠ 0) (hv : v.natAbs ≤ 2 ^ 27)
    (hbias : bias = true → 2 ≤ v.natAbs) : ∃ w, Reads (pLevel i sl bias) w v := by
  obtain ⟨c, rfl, hc, hge⟩ := exists_levelOfCode h0 hv
  obtain ⟨p, hp, suffix, hsuffix, hcode⟩ :
      ∃ p ≤ 31, ∃ suffix < 2 ^ suffixSize p sl, levelCodeOf p sl suffix bias = c := by
    cases bias with
    | false => exact exists_levelCodeOf sl hc
    | true =>
      have := hbias rfl
      obtain ⟨p, hp, suffix, hsuffix, hcode⟩ := exists_levelCodeOf (c := c - 2) sl (by omega)
      exact ⟨p, hp, suffix, hsuffix, by rw [levelCodeOf_bias, hcode]; omega⟩
  obtain ⟨w, hw⟩ := exists_reads_bits (se := .levelSuffix) (i := i) 0 hsuffix
  rw [Nat.zero_mul, Nat.zero_add] at hw
  have hprefix := reads_levelPrefix (i := i) (lz := 0) (n := p) (by rw [Nat.zero_add]; exact hp)
  rw [Nat.zero_add] at hprefix
  subst hcode
  exact ⟨_, hprefix.pThen (hw.pThen (reads_give _))⟩

/-- From index `i` on the levels are fit for `t1` trailing ones: these are 1 or -1, and with fewer than three the next
level is not (R106, R109). -/
def LevelsFit (t1 : Nat) : Nat → List Int → Prop
  | _, [] => True
  | i, v :: vs => (if i < t1 then v.natAbs = 1 else i = t1 → t1 < 3 → 2 ≤ v.natAbs) ∧ LevelsFit t1 (i + 1) vs

/-- Past the trailing ones, and the level with the bias, any levels are fit. -/
theorem levelsFit_of_le {t1 i : Nat} (h : t1 ≤ i) (h3 : i = t1 → 3 ≤ t1) (vs : List Int) : LevelsFit t1 i vs := by
  induction vs generalizing i with
  | nil => trivial
  | cons v vs ih =>
    refine ⟨?_, ih (by omega) (by omega)⟩
    rw [if_neg (by omega)]
    omega

/-- Levels other than 0 have a number of trailing ones, at most three, that they are fit for. -/
theorem exists_levelsFit {n i : Nat} (hn : i + n = 3) {vs : List Int} (hvs : ∀ v ∈ vs, v ≠ 0) :
    ∃ t1, i ≤ t1 ∧ t1 ≤ 3 ∧ t1 ≤ i + vs.length ∧ LevelsFit t1 i vs := by
  induction n generalizing i vs with
  | zero => exact ⟨i, le_rfl, by omega, by omega, levelsFit_of_le le_rfl (by omega) vs⟩
  | succ n ih =>
    cases vs with
    | nil => exact ⟨i, le_rfl, by omega, le_rfl, trivial⟩
    | cons v vs =>
      obtain ⟨hv, hvs⟩ := List.forall_mem_cons.mp hvs
      by_cases h1 : v.natAbs = 1
      · obtain ⟨t1, hi, h3, hlen, hfit⟩ := ih (i := i + 1) (by omega) hvs
        exact ⟨t1, by omega, h3, by rw [List.length_cons]; omega, (if_pos (by omega)).mpr h1, hfit⟩
      · refine ⟨i, le_rfl, by omega, by omega, ?_, levelsFit_of_le (by omega) (by omega) vs⟩
        rw [if_neg (lt_irrefl i)]
        omega

/-- Fit levels of magnitude up to 2^27 have a code. -/
theorem exists_reads_levels {t1 sl : Nat} {vs : List Int} (hfit : LevelsFit t1 i vs)
    (hvs : ∀ v ∈ vs, v ≠ 0 ∧ v.natAbs ≤ 2 ^ 27) : ∃ w, Reads (pLevels t1 vs.length i sl) w vs := by
  induction vs generalizing i sl with
  | nil => exact ⟨[], reads_give []⟩
  | cons v vs ih =>
    obtain ⟨⟨h0, hv⟩, hvs⟩ := List.forall_mem_cons.mp hvs
    obtain ⟨hfirst, hfit⟩ := hfit
    rw [List.length_cons, pLevels]
    split at hfirst
    next hlt =>
      obtain ⟨w, hw⟩ := ih (sl := sl) hfit hvs
      obtain ⟨b, rfl⟩ : ∃ b, trailingOneLevel b = v := by
        obtain h | h : v = 1 ∨ v = -1 := by omega
        · exact ⟨false, h.symm⟩
        · exact ⟨true, h.symm⟩
      rw [if_pos hlt]
      exact ⟨_, (reads_bit b).pThen (hw.pThen (reads_give _))⟩
    next hge =>
      obtain ⟨w, hw⟩ := exists_reads_level (i := i) (bias := decide (i = t1) && decide (t1 < 3)) h0 hv
        (by simpa using hfirst)
      obtain ⟨w', hw'⟩ := ih (sl := nextSuffixLength sl v) hfit hvs
      rw [if_neg hge]
      exact ⟨_, hw.pThen (hw'.pThen (reads_give _))⟩

end

/-! ### coeff_token, total_zeros and the runs -/

/-- coeff_token has a codeword for every TotalCoeff that fits the block and every number of trailing ones (R140). -/
theorem exists_coeffToken {maxN : BitVec 7} {nC : BitVec 6} (hlegal : cavlcLegal maxN nC = true) {tc t1 : Nat}
    (htc : tc ≤ maxN.toNat) (h3 : t1 ≤ 3) (ht1 : t1 ≤ tc) : ∃ w, (w, (tc, t1)) ∈ coeffTokenTable nC.toInt := by
  have hall : ∀ tc ≤ if nC.toInt = -1 then 4 else if nC.toInt = -2 then 8 else 16, ∀ t1 ≤ 3, t1 ≤ tc →
      ((coeffTokenTable nC.toInt).any fun row => row.2 = (tc, t1)) = true := by
    unfold coeffTokenTable
    split_ifs <;> decide
  have hle : tc ≤ if nC.toInt = -1 then 4 else if nC.toInt = -2 then 8 else 16 := by
    simp only [cavlcLegal, Bool.or_eq_true, Bool.and_eq_true, beq_iff_eq, decide_eq_true_eq] at hlegal
    split_ifs <;> omega
  obtain ⟨⟨w, v⟩, hmem, hv⟩ := List.any_eq_true.mp (hall tc hle t1 h3 ht1)
  exact ⟨w, of_decide_eq_true hv ▸ hmem⟩

/-- A row of total_zeros is a row of R141, R142 or R143. -/
theorem totalZerosTable_isNatTable {maxN tc : Nat} (hmax : maxN = 4 ∨ maxN = 8 ∨ maxN = 15 ∨ maxN = 16) (h1 : 1 ≤ tc)
    (htc : tc < maxN) : IsNatTable (totalZerosTable maxN tc) := by
  unfold totalZerosTable
  split_ifs
  · exact .inr (.inl ⟨tc, h1, by omega, rfl⟩)
  · exact .inr (.inr (.inl ⟨tc, h1, by omega, rfl⟩))
  · exact .inl ⟨tc, h1, by omega, rfl⟩

/-- Every total_zeros that fits the block has a code (R112, R141 to R143). -/
theorem exists_reads_totalZeros {maxN tc tz : Nat} (hmax : maxN = 4 ∨ maxN = 8 ∨ maxN = 15 ∨ maxN = 16) (h1 : 1 ≤ tc)
    (hle : tc + tz ≤ maxN) : ∃ w, Reads (pTotalZeros maxN tc) w tz := by
  unfold pTotalZeros
  split
  next htc =>
    have hall : ∀ maxN ∈ [4, 8, 15, 16], ∀ tc < maxN, 1 ≤ tc → ∀ tz ≤ maxN - tc,
        ((totalZerosTable maxN tc).any fun row => row.2 = tz) = true := by decide
    obtain ⟨⟨w, v⟩, hmem, hv⟩ := List.any_eq_true.mp (hall maxN (by simpa using hmax) tc htc h1 tz (by omega))
    obtain rfl : v = tz := of_decide_eq_true hv
    have hw : Reads (pVlc (totalZerosTable maxN tc) .totalZeros 0 []) w v :=
      (natTable_isCode (totalZerosTable_isNatTable hmax h1 htc)).pVlc_codeword hmem
    refine exists_reads_then hw ⟨[], ?_⟩
    rw [if_neg (by omega)]
    exact reads_give v
  next =>
    obtain rfl : tz = 0 := by omega
    exact ⟨[], reads_give 0⟩

/-- Every run that fits the zeros left has a codeword (R144). -/
theorem exists_reads_runBefore {z r : Nat} (i : Nat) (h1 : 1 ≤ z) (hz : z ≤ 14) (hr : r ≤ z) :
    ∃ w, Reads (pVlc (runBeforeTable (min z 7)) .runBefore i []) w r := by
  have hall : ∀ z ≤ 14, 1 ≤ z → ∀ r ≤ z, ((runBeforeTable (min z 7)).any fun row => row.2 = r) = true := by decide
  obtain ⟨⟨w, v⟩, hmem, hv⟩ := List.any_eq_true.mp (hall z hz h1 r hr)
  obtain rfl : v = r := of_decide_eq_true hv
  have hT : IsNatTable (runBeforeTable (min z 7)) := .inr (.inr (.inr ⟨min z 7, by omega, by omega, rfl⟩))
  exact ⟨w, (natTable_isCode hT).pVlc_codeword hmem⟩

/-- Runs that add up to total_zeros have a code; the last is not read (R114, R115). -/
theorem exists_reads_runs {n : Nat} (i : Nat) {runs : List Nat} (hlen : runs.length = n + 1)
    (hz : n = 0 ∨ runs.sum ≤ 14) : ∃ w, Reads (pRuns n i runs.sum) w runs := by
  induction n generalizing i runs with
  | zero =>
    obtain ⟨r, rfl⟩ := List.length_eq_one_iff.mp hlen
    exact ⟨[], reads_give [r]⟩
  | succ n ih =>
    obtain ⟨r, rs, rfl⟩ := List.exists_cons_of_length_eq_add_one hlen
    rw [List.sum_cons] at hz ⊢
    obtain ⟨w', hw'⟩ := ih (i + 1) (Nat.succ.inj hlen) (by omega)
    rw [pRuns]
    split
    next hpos =>
      obtain ⟨w, hw⟩ := exists_reads_runBefore i (r := r) hpos (by omega) (by omega)
      refine exists_reads_then hw ?_
      rw [if_neg (by omega), Nat.add_sub_cancel_left]
      exact ⟨_, hw'.pThen (reads_give _)⟩
    next h0 =>
      obtain rfl : r = 0 := by omega
      rw [show rs.sum = 0 by omega] at hw'
      exact ⟨_, hw'.pThen (reads_give _)⟩

/-! ### The block -/

theorem padBlock_cons (n : Nat) (x : Int) (cs : List Int) : padBlock (n + 1) (x :: cs) = x :: padBlock n cs := by
  simp [padBlock]

theorem padBlock_succ_nil (n : Nat) : padBlock (n + 1) [] = 0 :: padBlock n [] := by
  simp [padBlock, List.replicate_succ]

/-- Every block is the scatter of levels other than 0, each above its run of zeros (R116). -/
theorem exists_scatterList (xs : List Int) : ∃ (levels : List Int) (runs : List Nat), levels.length = runs.length ∧
    (∀ v ∈ levels, v ≠ 0 ∧ v ∈ xs) ∧ padBlock xs.length (scatterList levels runs) = xs := by
  induction xs with
  | nil => exact ⟨[], [], rfl, nofun, rfl⟩
  | cons x xs ih =>
    obtain ⟨levels, runs, hlen, hlevels, hxs⟩ := ih
    have hmem : ∀ v ∈ levels, v ≠ 0 ∧ v ∈ x :: xs := fun v hv => ⟨(hlevels v hv).1, .tail _ (hlevels v hv).2⟩
    rw [List.length_cons]
    by_cases h0 : x = 0
    · subst h0
      rcases List.eq_nil_or_concat levels with rfl | ⟨levels', v, rfl⟩
      · refine ⟨[], [], rfl, nofun, ?_⟩
        rw [show scatterList [] [] = [] from rfl, padBlock_succ_nil]
        exact congrArg _ hxs
      · obtain rfl | ⟨runs', r, rfl⟩ := List.eq_nil_or_concat runs
        · simp at hlen
        · have hlen' : levels'.length = runs'.length := by simpa using hlen
          refine ⟨levels' ++ [v], runs' ++ [r + 1], by simpa using hlen', by simpa using hmem, ?_⟩
          simp only [List.concat_eq_append] at hxs
          rw [scatterList_concat hlen'] at hxs ⊢
          rw [List.replicate_succ, List.cons_append, padBlock_cons, hxs]
    · refine ⟨levels ++ [x], runs ++ [0], by simp [hlen], fun v hv => ?_, ?_⟩
      · obtain hv | hv := List.mem_append.mp hv
        · exact hmem v hv
        · obtain rfl := List.mem_singleton.mp hv
          exact ⟨h0, List.mem_cons_self⟩
      · rw [scatterList_concat hlen, List.replicate_zero, List.nil_append, padBlock_cons, hxs]

/-- Every block of levels up to 2^27 has a code that the pseudocode of CAVLC_BLOCK reads exactly. -/
theorem exists_reads_cavlc {maxN : BitVec 7} {nC : BitVec 6} {xs : List Int} (hlegal : cavlcLegal maxN nC = true)
    (hlen : xs.length = maxN.toNat) (hxs : ∀ v ∈ xs, v.natAbs ≤ 2 ^ 27) :
    ∃ b : Block, b.coefs = xs ∧ ∃ code, Reads (pCavlc maxN.toNat nC.toInt) code b := by
  have hmax : maxN.toNat = 4 ∨ maxN.toNat = 8 ∨ maxN.toNat = 15 ∨ maxN.toNat = 16 := by
    simp only [cavlcLegal, Bool.or_eq_true, Bool.and_eq_true, beq_iff_eq] at hlegal
    omega
  obtain ⟨levels, runs, hruns, hlevels, hblock⟩ := exists_scatterList xs
  rw [hlen] at hblock
  have hle : levels.length + runs.sum ≤ maxN.toNat := by
    rw [← scatterList_length hruns, ← hlen, ← hblock, padBlock, List.length_append]
    exact Nat.le_add_right _ _
  obtain ⟨t1, -, h3, ht1, hfit⟩ := exists_levelsFit (n := 3) (i := 0) rfl fun v hv => (hlevels v hv).1
  rw [Nat.zero_add] at ht1
  obtain ⟨w, hw⟩ := exists_coeffToken hlegal (tc := levels.length) (by omega) h3 ht1
  by_cases h0 : levels.length = 0
  · refine ⟨{ coefs := padBlock maxN.toNat [], tc := 0, t1 := t1, tz := 0, numCoeff := 0, cbf := false }, ?_,
      exists_reads_then (reads_coeffToken hw) ⟨[], ?_⟩⟩
    · rwa [List.length_eq_zero_iff.mp h0] at hblock
    · rw [if_neg (by omega), if_pos h0]
      exact reads_give _
  · obtain ⟨wl, hwl⟩ := exists_reads_levels (sl := initialSuffixLength levels.length t1) hfit fun v hv =>
      ⟨(hlevels v hv).1, hxs v (hlevels v hv).2⟩
    obtain ⟨wz, hwz⟩ := exists_reads_totalZeros hmax (by omega) hle
    obtain ⟨wr, hwr⟩ := exists_reads_runs (n := levels.length - 1) 0 (runs := runs) (by omega) (by omega)
    refine ⟨{ coefs := padBlock maxN.toNat (scatterList levels runs), tc := levels.length, t1 := t1, tz := runs.sum
              numCoeff := levels.length + runs.sum, cbf := true }, hblock, exists_reads_then (reads_coeffToken hw) ?_⟩
    rw [if_neg (by omega), if_neg h0]
    exact ⟨_, hwl.pThen (hwz.pThen (hwr.pThen (reads_give _)))⟩

/-- Settles O19: the pseudocode reads the code of the block exactly, so the command completes with the block. -/
theorem cavlcDecodesEveryBlock : Obligations.CavlcDecodesEveryBlock := by
  intro maxN nC xs hlegal hlen hxs
  obtain ⟨b, rfl, code, hcode⟩ := exists_reads_cavlc hlegal hlen hxs
  refine ⟨code, fun s rest hready henv hbits => ?_⟩
  obtain ⟨t, ht, ⟨-, hdone, -, -, -, -, -, -, -, -, -, -, -, hcount, -, -, hcoef⟩, hrest, -⟩ :=
    cavlcBlockCompletes maxN nC s b _ rest hready henv hlegal (hbits ▸ hcode rest)
  exact ⟨t, ht, hdone, hrest, by simpa using hcount, fun k hk => (hcoef k hk).1⟩

end Sys2Proof.Machine

/-! ## The errors of CABAC_BLOCK and its coded_block_flag -/

namespace Sys2Proof.Machine

open Sys2Proof.Claims

/-- Settles O24: the run of the accepted command follows the pseudocode up to the error. -/
theorem cabacBlockRaises : Obligations.CabacBlockRaises := by
  intro maxN cat s c se idx log rest hready henv hlegal hparse
  obtain ⟨hbins, hlog, hcount⟩ : (accepted (.cabacBlock maxN cat) s).bins = s.bins ∧
    (accepted (.cabacBlock maxN cat) s).portLog = s.portLog ∧ (accepted (.cabacBlock maxN cat) s).work.count = 0 :=
    startCabac_carriesOn _
  have hexec := exec_ready (i := .cabacBlock maxN cat) hready henv hlegal
  obtain ⟨u, hu, hrest, hlog', hcount'⟩ := runOn_of_error (accepted_follows cat s hlegal) (hbins ▸ hparse)
  obtain ⟨hframe, hbits, -⟩ := cabacBlockFrame maxN cat s _ hexec
  have hone := exec_oneEnd (i := .cabacBlock maxN cat) hready hlegal hexec
  rw [hlog] at hlog'
  rw [hcount, Nat.zero_add] at hcount'
  exact ⟨_, hexec, failed_of_raise hframe hready hu hone hcount' hlog', by rw [hu, raiseDecode_bins, hrest], hbits⟩

/-- A coded_block_flag bin of 0 is all that the pseudocode reads of a block that is not coded (R151). -/
theorem pCabac_notCoded {o : CabacOperands} (h64 : o.maxN.toNat ≠ 64) (rest : List Answer) :
    ∃ req, pCabac o (.bit false :: rest) =
        .got { coefs := padBlock o.maxN.toNat [], tc := 0, t1 := 0, tz := 0, numCoeff := 0, cbf := false }
          [.binRead req (.bit false)] rest ∧
      req.se = 8 ∧ req.binIdx = 0 ∧ req.bypass = false ∧ req.idx = 0 := by
  rw [pCabac, pCodedBlockFlag, if_neg h64]
  exact ⟨_, rfl, rfl, rfl, rfl, rfl⟩

/-- The scan goes on where a position is left below the last one (R152). -/
theorem nextScan_of_lt {s : State} (h : s.work.i + 1 < s.work.numCoeff) : nextScan s = toPhase .significance s :=
  if_pos h

/-- A CABAC_BLOCK of 64 coefficients begins with the significance bin of position 0 (R151, R152). -/
theorem startCabac_of_64 {s : State} (h : s.maxNum = 64) :
    (startCabac s).work.cbf = true ∧ (startCabac s).work.phase = .significance ∧ (startCabac s).work.i = 0 := by
  rw [startCabac, if_pos h, startScan, nextScan_of_lt (show 0 + 1 < s.maxNum by omega)]
  exact ⟨rfl, rfl, rfl⟩

/-- The only phase that requests a coded_block_flag bin (R151). -/
theorem phase_of_ask_codedBlockFlag {w : Work} {binIdx idx : Nat} {bypass : Bool}
    (h : w.ask = .bin .codedBlockFlag binIdx bypass idx) : w.phase = .codedBlockFlag := by
  cases hp : w.phase <;> simp [Work.ask, hp] at h ⊢

/-- Only coded_block_flag has the code 8 (R13). -/
theorem code_ne_eight {se : SyntaxElement} (h : se ≠ .codedBlockFlag) : BitVec.ofNat 4 se.code ≠ 8 := by
  cases se <;> simp [SyntaxElement.code] at h ⊢

/-- A part of a log with bin requests only, none of them for coded_block_flag. -/
def NoCodedBlockFlag (log : List Transaction) : Prop := ∀ x ∈ log, ∃ req a, x = .binRead req a ∧ req.se ≠ 8

/-- A run of a CABAC_BLOCK of 64 coefficients that has requested no coded_block_flag bin since the log `l`. -/
def Run64 (cat : BitVec 3) (l : List Transaction) (u : State) : Prop :=
  RequestsRun 64 cat l u ∧ ∃ log, u.portLog = log ++ l ∧ NoCodedBlockFlag log

/-- With 64 coefficients the invariant rules out the phase of coded_block_flag, so its bin is never requested. -/
theorem Run64.rcdStep {cat : BitVec 3} {l : List Transaction} {u : State} (h : Run64 cat l u) :
    Run64 cat l (rcdStep u) := by
  obtain ⟨hrun, log, hlog, hno⟩ := h
  refine ⟨hrun.rcdStep, ?_⟩
  cases hb : u.busy with
  | false =>
    rw [rcdStep_of_not_busy hb]
    exact ⟨log, hlog, hno⟩
  | true =>
    obtain ⟨-, -, hsame⟩ | ⟨se, binIdx, bypass, idx, a, hask, hreq⟩ := rcdStep_request hb (hrun.op hb)
    · exact ⟨log, hsame.trans hlog, hno⟩
    · refine ⟨_ :: log, by rw [hreq, hlog]; rfl, List.forall_mem_cons.mpr ⟨⟨_, a, rfl, code_ne_eight ?_⟩, hno⟩⟩
      rintro rfl
      obtain ⟨hphase, -⟩ := hrun.sound.phase hb
      rw [Work.phaseOk, phase_of_ask_codedBlockFlag hask] at hphase
      exact hphase.2 (congrArg BitVec.toNat hrun.maxN_eq)

/-- Settles O26: the pseudocode gives the block that is not coded; acceptance of 64 coefficients begins the scan; and
no step of its run requests a coded_block_flag bin. -/
theorem cabacCodedBlockFlag : Obligations.CabacCodedBlockFlag := by
  refine ⟨fun maxN cat s rest hs henv hlegal h64 hbins => ?_, fun cat s hs henv => ?_,
    fun cat s t log hs ht hlog => ?_⟩
  · obtain ⟨req, hparse, hse, hbin, hbypass, hidx⟩ := pCabac_notCoded (o := ⟨maxN, cat⟩) h64 rest
    obtain ⟨t, ht, ⟨hb, hd, he, -, -, -, -, -, htc, ht1, htz, hnum, hcbf, hcount, hlog, -, hcoef⟩, hrest, -⟩ :=
      cabacBlockCompletes maxN cat s _ _ _ hs henv hlegal (hbins ▸ hparse)
    refine ⟨t, req, ht, hb, hd, he, hrest, hlog, hse, hbin, hbypass, hidx, hcount, hcbf, hnum, htc, htz, ht1,
      fun k hk hlt => ?_⟩
    rw [(hcoef k hk).1 hlt, padBlock_getD]
    rfl
  · refine ⟨_, exec_of_wellFormed (i := .cabacBlock 64 cat) hs rfl, ?_⟩
    rw [proceed_of_events ((accepted_keepsControl _ s).env ▸ henv)]
    exact startCabac_of_64 (congrArg BitVec.toNat (maxNField_cmd32 ..))
  · rw [exec_of_wellFormed (i := .cabacBlock 64 cat) hs rfl] at ht
    cases ht
    obtain ⟨-, log', hlog', hno⟩ := proceed_keeps (P := Run64 cat s.portLog) (fun _ hu => hu.rcdStep) _
      ⟨accepted_requestsRun rfl cat s, [], (startCabac_carriesOn _).2.1, nofun⟩
    rwa [List.append_cancel_right (hlog.symm.trans hlog')]

end Sys2Proof.Machine

/-! ## What the pseudocode of CABAC_BLOCK gives, and the requests it makes on the way -/

namespace Sys2Proof.Machine

open Sys2Proof.Claims

/-- A value that `p` gives, and the transactions made for it, meet `V`. -/
def Gives {α : Type} (V : α → List Transaction → Prop) (p : Parser α) : Prop :=
  ∀ l v log rest, p l = .got v log rest → V v log

section
variable {α β : Type} {V : α → List Transaction → Prop} {W : β → List Transaction → Prop} {p : Parser α}
  {f : α → Parser β}

theorem gives_give {v : α} (h : V v []) : Gives V (pGive v) := by
  rintro l v log rest ⟨⟩
  exact h

theorem gives_raise {c : ErrorCode} {se : SyntaxElement} {idx : Nat} : Gives V (pRaise c se idx) := nofun

theorem gives_then (hp : Gives V p) (hf : ∀ v log, V v log → Gives (fun u log' => W u (log ++ log')) (f v)) :
    Gives W (pThen p f) := by
  intro l u log rest h
  unfold pThen at h
  cases hpl : p l <;> simp only [hpl, reduceCtorEq] at h
  case got v log₁ rest₁ =>
    cases hfl : f v rest₁ <;> simp only [hfl, Parsed.after, Parsed.got.injEq, reduceCtorEq] at h
    case got =>
      obtain ⟨rfl, rfl, rfl⟩ := h
      exact hf v log₁ (hp l v log₁ rest₁ hpl) rest₁ _ _ _ hfl

theorem Gives.mono {V' : α → List Transaction → Prop} (h : Gives V p) (hV : ∀ v log, V v log → V' v log) :
    Gives V' p := fun l v log rest hp => hV v log (h l v log rest hp)

/-- A value made of the value given, by the same transactions. -/
theorem gives_map {g : α → β} (hp : Gives V p) (hg : ∀ v log, V v log → W (g v) log) :
    Gives W (pThen p fun v => pGive (g v)) :=
  gives_then hp fun v log hv => gives_give (by simpa using hg v log hv)

end

/-- The log of one bin: a request of the element `se` at position `idx`, answered `b` (R58). -/
def OneBin (se : SyntaxElement) (idx : Nat) (b : Bool) (log : List Transaction) : Prop :=
  ∃ req : BinRequest, log = [.binRead req (.bit b)] ∧ req.se = BitVec.ofNat 4 se.code ∧ req.idx = BitVec.ofNat 6 idx

section
variable {o : CabacOperands} {i gt1 eq1 : Nat}

theorem gives_bin {se : SyntaxElement} {binIdx idx : Nat} {bypass : Bool} :
    Gives (OneBin se idx) (pBin o se binIdx bypass idx gt1 eq1) := by
  intro l b log rest h
  unfold pBin pRead at h
  split at h <;> cases h
  exact ⟨_, rfl, rfl, rfl⟩

/-! ### Outside the significance scan: coded_block_flag and the levels -/

/-- A significance bin or a last bin (R152, R153). -/
def ScanBin (x : Transaction) : Prop := ∃ req a, x = .binRead req a ∧ (req.se = 9 ∨ req.se = 10)

/-- A part of the pseudocode outside the significance scan, whose value meets `V`. -/
def OffScan {α : Type} (V : α → Prop) (p : Parser α) : Prop :=
  Gives (fun v log => V v ∧ ∀ x ∈ log, ¬ ScanBin x) p

section
variable {α β : Type} {V : α → Prop} {W : β → Prop} {p : Parser α} {f : α → Parser β}

theorem offScan_give {v : α} (h : V v) : OffScan V (pGive v) := gives_give ⟨h, nofun⟩

theorem offScan_then (hp : OffScan V p) (hf : ∀ v, V v → OffScan W (f v)) : OffScan W (pThen p f) :=
  gives_then hp fun v _ ⟨hv, hlog⟩ => (hf v hv).mono fun _ _ ⟨hu, hlog'⟩ =>
    ⟨hu, List.forall_mem_append.mpr ⟨hlog, hlog'⟩⟩

theorem offScan_map {g : α → β} (hp : OffScan V p) (hg : ∀ v, V v → W (g v)) :
    OffScan W (pThen p fun v => pGive (g v)) := offScan_then hp fun v hv => offScan_give (hg v hv)

theorem offScan_bin {se : SyntaxElement} (hse : se ≠ .significantCoeffFlag ∧ se ≠ .lastSignificantCoeffFlag)
    {binIdx idx : Nat} {bypass : Bool} : OffScan (fun _ => True) (pBin o se binIdx bypass idx gt1 eq1) := by
  refine gives_bin.mono ?_
  rintro b _ ⟨req, rfl, hreq, -⟩
  refine ⟨trivial, List.forall_mem_singleton.mpr ?_⟩
  rintro ⟨_, _, ⟨⟩, hscan⟩
  rw [hreq] at hscan
  cases se <;> simp [SyntaxElement.code] at hscan hse

end

/-- The truncated unary part is at most 14 (R156). -/
theorem offScan_absPrefix {n p : Nat} (h : p + n ≤ 14) : OffScan (· ≤ 14) (pAbsPrefix o i gt1 eq1 n p) := by
  induction n generalizing p with
  | zero => exact offScan_give h
  | succ n ih =>
    refine offScan_then (offScan_bin (by decide)) fun b _ => ?_
    split
    next => exact ih (by omega)
    next => exact offScan_give (by omega)

/-- The order reached is at most EG0_K_MAX, and the powers below it add up to it (R157). -/
theorem offScan_absUnary {n k suffix : Nat} (hn : k + n ≤ Config.eg0KMax) (hsum : suffix + 1 = 2 ^ k) :
    OffScan (fun u => u.1 ≤ Config.eg0KMax ∧ u.2 + 1 = 2 ^ u.1) (pAbsUnary o i gt1 eq1 n k suffix) := by
  induction n generalizing k suffix with
  | zero =>
    rw [pAbsUnary.eq_def]
    refine offScan_then (offScan_bin (by decide)) fun b _ => ?_
    split
    next => exact gives_raise
    next => exact offScan_give ⟨hn, hsum⟩
  | succ n ih =>
    rw [pAbsUnary.eq_def]
    refine offScan_then (offScan_bin (by decide)) fun b _ => ?_
    split
    next => exact ih (by omega) (by rw [pow_succ]; omega)
    next => exact offScan_give ⟨by omega, hsum⟩

/-- `k` bits add less than `2 ^ k` (R157). -/
theorem offScan_absBits (k binIdx suffix : Nat) :
    OffScan (· < suffix + 2 ^ k) (pAbsBits o i gt1 eq1 k binIdx suffix) := by
  induction k generalizing binIdx suffix with
  | zero => exact offScan_give (by simp)
  | succ k ih =>
    refine offScan_then (offScan_bin (by decide)) fun b _ => (ih _ _).mono fun v log ⟨hv, hlog⟩ => ⟨?_, hlog⟩
    have hb : b.toNat * 2 ^ k ≤ 1 * 2 ^ k := Nat.mul_le_mul_right _ b.toNat_le
    rw [pow_succ]
    omega

/-- The bound of R161 on the magnitude minus one. -/
theorem offScan_absLevelMinus1 : OffScan (· ≤ 2 ^ 30 + 12) (pAbsLevelMinus1 o i gt1 eq1) := by
  refine offScan_then (offScan_absPrefix (n := 14) (p := 0) le_rfl) fun p hp => ?_
  split
  next => exact offScan_give (hp.trans (by decide))
  next =>
    refine offScan_then (offScan_absUnary (n := Config.eg0KMax) (k := 0) (by simp) rfl) fun u ⟨hk, hsum⟩ => ?_
    refine offScan_map (offScan_absBits _ _ _) fun suffix hsuffix => ?_
    have hpow : 2 ^ u.1 ≤ 2 ^ 29 := Nat.pow_le_pow_right (by decide) hk
    omega

/-- The mark of a level in the significance map (R152). -/
def mark (v : Int) : Bool := decide (v ≠ 0)

/-- A level of R161. -/
def CabacLevel (v : Int) : Prop := v.natAbs ≤ 2 ^ 30 + 13

theorem signedLevel_level {absm1 : Nat} (h : absm1 ≤ 2 ^ 30 + 12) (sign : Bool) :
    mark (signedLevel absm1 sign) = true ∧ CabacLevel (signedLevel absm1 sign) := by
  unfold mark CabacLevel signedLevel
  cases sign <;> simp <;> omega

/-- The level walk gives levels of the marks it is given (R155, R159, R161). -/
theorem offScan_walk (ms : List Bool) (gt1 eq1 : Nat) :
    OffScan (fun vs => vs.map mark = ms ∧ ∀ v ∈ vs, CabacLevel v) (pWalk o ms gt1 eq1) := by
  induction ms generalizing gt1 eq1 with
  | nil => exact offScan_give ⟨rfl, nofun⟩
  | cons m below ih =>
    cases m with
    | false =>
      refine offScan_map (ih gt1 eq1) ?_
      rintro vs ⟨rfl, hvs⟩
      exact ⟨rfl, List.forall_mem_cons.mpr ⟨Nat.zero_le _, hvs⟩⟩
    | true =>
      refine offScan_then offScan_absLevelMinus1 fun absm1 habs => ?_
      refine offScan_then (offScan_bin (by decide)) fun sign _ => ?_
      obtain ⟨hmark, hlevel⟩ := signedLevel_level habs sign
      refine offScan_map (V := fun vs => vs.map mark = below ∧ ∀ v ∈ vs, CabacLevel v) ?_ ?_
      · split
        next => exact ih _ _
        next => exact ih _ _
      · rintro vs ⟨rfl, hvs⟩
        exact ⟨by rw [List.map_cons, hmark], List.forall_mem_cons.mpr ⟨hlevel, hvs⟩⟩

/-! ### The significance scan -/

theorem lastFlagsSet_append (log log' : List Transaction) :
    lastFlagsSet (log ++ log') = lastFlagsSet log + lastFlagsSet log' := List.countP_append

/-- Only a last bin answered 1 is a last flag (R153). -/
theorem OneBin.lastFlags {se : SyntaxElement} {idx : Nat} {b : Bool} {log : List Transaction}
    (h : OneBin se idx b log) : lastFlagsSet log = if b = true ∧ se = .lastSignificantCoeffFlag then 1 else 0 := by
  obtain ⟨req, rfl, hse, -⟩ := h
  cases b with
  | false => simp [lastFlagsSet]
  | true => cases se <;> simp [lastFlagsSet, hse, SyntaxElement.code]

theorem lastFlagsSet_of_offScan {log : List Transaction} (h : ∀ x ∈ log, ¬ ScanBin x) : lastFlagsSet log = 0 := by
  refine List.countP_eq_zero.mpr fun x hx hset => ?_
  split at hset
  next req => exact h _ hx ⟨req, _, rfl, .inr (eq_of_beq hset)⟩
  next => cases hset

/-- Every bin request of a log is at a position below `n`. -/
def RequestsBelow (n : Nat) (log : List Transaction) : Prop :=
  ∀ req a, Transaction.binRead req a ∈ log → req.idx.toNat < n

theorem RequestsBelow.append {n : Nat} {log log' : List Transaction} (h : RequestsBelow n log)
    (h' : RequestsBelow n log') : RequestsBelow n (log ++ log') := fun req a hmem =>
  (List.mem_append.mp hmem).elim (h req a) (h' req a)

theorem OneBin.requestsBelow {se : SyntaxElement} {idx n : Nat} {b : Bool} {log : List Transaction}
    (h : OneBin se idx b log) (hn : idx < n) : RequestsBelow n log := by
  obtain ⟨req, rfl, -, hidx⟩ := h
  rintro req' a hmem
  obtain ⟨rfl, -⟩ := Transaction.binRead.inj (List.mem_singleton.mp hmem)
  rw [hidx, BitVec.toNat_ofNat]
  exact (Nat.mod_le _ _).trans_lt hn

/-- The marks of a scan from position `i` on, with `n` positions left below the last one: the last mark is 1, no request
lies above it, and a last flag of 1 is set exactly when the scan ends early (R152 to R154, R163, C4). -/
structure ScanGives (n i : Nat) (ms : List Bool) (log : List Transaction) : Prop where
  top : ∃ below, ms = below ++ [true]
  length_le : ms.length ≤ n + 1
  below : RequestsBelow (i + ms.length) log
  lastFlags : lastFlagsSet log = if ms.length = n + 1 then 0 else 1

/-- One more position below, by bins that set no last flag. -/
theorem ScanGives.cons {n i : Nat} {ms : List Bool} {log log' : List Transaction} (h : ScanGives n (i + 1) ms log')
    (hlog : RequestsBelow (i + 1) log) (hlast : lastFlagsSet log = 0) (b : Bool) :
    ScanGives (n + 1) i (b :: ms) (log ++ log') := by
  obtain ⟨⟨below, rfl⟩, hlen, hbelow, hflags⟩ := h
  refine ⟨⟨b :: below, rfl⟩, Nat.succ_le_succ hlen, ?_, ?_⟩
  · rw [List.length_cons, Nat.add_comm _ 1, ← Nat.add_assoc]
    exact RequestsBelow.append (fun req a hmem => (hlog req a hmem).trans_le (Nat.le_add_right _ _)) hbelow
  · rw [lastFlagsSet_append, hlast, hflags, Nat.zero_add, List.length_cons]
    simp

theorem gives_scan (n i : Nat) : Gives (ScanGives n i) (pScan o n i) := by
  induction n generalizing i with
  | zero => exact gives_give ⟨⟨[], rfl⟩, le_rfl, nofun, rfl⟩
  | succ n ih =>
    have hnext : ∀ b log, RequestsBelow (i + 1) log → lastFlagsSet log = 0 →
        Gives (fun ms log' => ScanGives (n + 1) i ms (log ++ log'))
          (pThen (pScan o n (i + 1)) fun ms => pGive (b :: ms)) := fun b log hlog hlast =>
      gives_map (ih (i + 1)) fun ms log' hms => hms.cons hlog hlast b
    refine gives_then gives_bin fun sig log hsig => ?_
    have hbelow := hsig.requestsBelow i.lt_succ_self
    have hnone := hsig.lastFlags
    rw [if_neg (by simp)] at hnone
    split
    next =>
      refine gives_then gives_bin fun last log' hlast => ?_
      simp only [← List.append_assoc]
      have hbelow' := hbelow.append (hlast.requestsBelow i.lt_succ_self)
      have hflags := hlast.lastFlags
      split
      next hset =>
        refine gives_give ⟨⟨[], rfl⟩, by simp, by simpa using hbelow', ?_⟩
        rw [List.append_nil, lastFlagsSet_append, hnone, hflags, if_pos ⟨hset, rfl⟩, if_neg (by simp)]
      next hset =>
        rw [if_neg (by simp [hset])] at hflags
        exact hnext true _ hbelow' (by rw [lastFlagsSet_append, hnone, hflags])
    next => exact hnext false _ hbelow hnone

end

end Sys2Proof.Machine

/-! ### The block, and how a CABAC_BLOCK ends -/

namespace Sys2Proof.Machine

open Sys2Proof.Claims

/-- The block of R161 to R163 (C4), and the requests made for it. -/
structure CabacBlockOk (maxN : Nat) (b : Block) (log : List Transaction) : Prop where
  level : ∀ v ∈ b.coefs, CabacLevel v
  count : b.coefs.countP (· ≠ 0) = b.tc
  t1 : b.t1 = 0
  tz : b.tz = b.numCoeff - b.tc
  tc_le : b.tc ≤ b.numCoeff
  numCoeff_le : b.numCoeff ≤ maxN
  coded : b.cbf = true ↔ b.tc ≠ 0
  notCoded : b.cbf = false ↔ b.numCoeff = 0
  top : ∀ k, k + 1 = b.numCoeff → b.coefs.getD k 0 ≠ 0
  above : ∀ k, b.numCoeff ≤ k → b.coefs.getD k 0 = 0
  scan : ∀ req a, Transaction.binRead req a ∈ log → req.se = 9 ∨ req.se = 10 → req.idx.toNat < b.numCoeff
  lastFlags : lastFlagsSet log = if b.cbf = true ∧ b.numCoeff ≠ maxN then 1 else 0

theorem cabacBlockOk_of_notCoded {maxN : Nat} {log : List Transaction} (hlog : ∀ x ∈ log, ¬ ScanBin x) :
    CabacBlockOk maxN { coefs := padBlock maxN [], tc := 0, t1 := 0, tz := 0, numCoeff := 0, cbf := false } log where
  level := fun _ hv => List.eq_of_mem_replicate hv ▸ Nat.zero_le _
  count := by simp [padBlock, List.countP_replicate]
  t1 := rfl
  tz := rfl
  tc_le := le_rfl
  numCoeff_le := Nat.zero_le _
  coded := by simp
  notCoded := by simp
  top := nofun
  above := fun k _ => by rw [padBlock_getD]; rfl
  scan := fun req a hmem hse => absurd ⟨req, a, rfl, hse⟩ (hlog _ hmem)
  lastFlags := lastFlagsSet_of_offScan hlog

/-- The levels `cs` of the marks of a scan, in scan order, make such a block. -/
theorem cabacBlockOk_of_walk {maxN : Nat} {cs : List Int} {log₀ log₁ log₂ : List Transaction} (hmax : 0 < maxN)
    (hlog₀ : ∀ x ∈ log₀, ¬ ScanBin x) (hscan : ScanGives (maxN - 1) 0 (cs.map mark) log₁)
    (hlog₂ : ∀ x ∈ log₂, ¬ ScanBin x) (hlevel : ∀ v ∈ cs, CabacLevel v) :
    CabacBlockOk maxN
      { coefs := padBlock maxN cs, tc := (cs.map mark).count true, t1 := 0
        tz := (cs.map mark).length - (cs.map mark).count true, numCoeff := (cs.map mark).length, cbf := true }
      (log₀ ++ (log₁ ++ log₂)) := by
  obtain ⟨⟨below, htop⟩, hlen, hbelow, hflags⟩ := hscan
  obtain ⟨ds, ts, rfl, hds, hts⟩ := List.map_eq_append_iff.mp htop
  obtain ⟨v, rfl, hv⟩ := List.map_eq_singleton_iff.mp hts
  refine ⟨List.forall_mem_append.mpr ⟨hlevel, fun _ hv => List.eq_of_mem_replicate hv ▸ Nat.zero_le _⟩, ?_, rfl, rfl,
    List.count_le_length, hlen.trans_eq (Nat.sub_add_cancel hmax), ?_, ?_, fun k hk => ?_, fun k hk => ?_,
    fun req a hmem hse => ?_, ?_⟩
  · rw [padBlock, List.countP_append, List.countP_replicate, List.count, List.countP_map]
    simp [mark, Function.comp_def]
  · simp [htop]
  · simp
  · simp only [List.length_map, List.length_append, List.length_singleton, Nat.add_right_cancel_iff] at hk
    rw [padBlock_getD, if_pos (by simp [hk]), List.getD_append_right _ _ _ _ hk.ge]
    simpa [hk, mark] using hv
  · rw [padBlock_getD, if_neg (by simpa using hk)]
  · obtain hmem | hmem | hmem : _ ∨ _ ∨ _ := by simpa using hmem
    · exact absurd ⟨req, a, rfl, hse⟩ (hlog₀ _ hmem)
    · simpa using hbelow req a hmem
    · exact absurd ⟨req, a, rfl, hse⟩ (hlog₂ _ hmem)
  · rw [lastFlagsSet_append, lastFlagsSet_append, lastFlagsSet_of_offScan hlog₀, lastFlagsSet_of_offScan hlog₂, hflags,
      Nat.sub_add_cancel hmax]
    simp

/-- What the pseudocode of CABAC_BLOCK gives (R161 to R163). -/
theorem gives_cabac {o : CabacOperands} (hmax : 0 < o.maxN.toNat) :
    Gives (CabacBlockOk o.maxN.toNat) (pCabac o) := by
  have hflag : OffScan (fun _ => True) (pCodedBlockFlag o) := by
    unfold pCodedBlockFlag
    split
    next => exact offScan_give trivial
    next => exact offScan_bin (by decide)
  refine gives_then hflag fun cbf log₀ ⟨_, hlog₀⟩ => ?_
  split
  next =>
    refine gives_then (gives_scan _ 0) fun marks log₁ hscan => ?_
    refine gives_map (offScan_walk marks.reverse 0 0) fun vs log₂ ⟨⟨hmarks, hlevel⟩, hlog₂⟩ => ?_
    obtain rfl : marks = vs.reverse.map mark := by rw [List.map_reverse, hmarks, List.reverse_reverse]
    exact cabacBlockOk_of_walk hmax hlog₀ hscan hlog₂ fun v hv => hlevel v (List.mem_reverse.mp hv)
  next => exact gives_give (cabacBlockOk_of_notCoded (by simpa using hlog₀))

/-- Where a CABAC_BLOCK has completed, its pseudocode has given a block. -/
theorem cabacBlock_of_done {maxN : BitVec 7} {cat : BitVec 3} {s t : State} (hs : s.Ready)
    (hlegal : cabacLegal maxN = true) (ht : exec (.cabacBlock maxN cat) s = .next t) (hdone : t.done = true) :
    ∃ b log, CabacBlockOk maxN.toNat b log ∧ Completed (.cabacBlock maxN cat) maxN.toNat b log s t := by
  have hbins : (accepted (.cabacBlock maxN cat) s).bins = s.bins := (startCabac_carriesOn _).1
  have hone := exec_oneEnd (i := .cabacBlock maxN cat) hs hlegal ht
  have hend : t.busy = false := by
    by_contra hb
    simp [(hone.1 (by simpa using hb)).1] at hdone
  obtain ⟨henv, hrun⟩ := exec_ended (i := .cabacBlock maxN cat) hs hlegal ht hend
  cases hparse : pCabac ⟨maxN, cat⟩ s.bins with
  | got b log rest =>
    obtain ⟨t', ht', hcompleted, -⟩ := cabacBlockCompletes maxN cat s b log rest hs henv hlegal hparse
    cases ht.symm.trans ht'
    have hmax : 0 < maxN.toNat := by
      have := cabacLegal_bounds hlegal
      omega
    exact ⟨b, log, gives_cabac hmax _ _ _ _ hparse, hcompleted⟩
  | error c se idx log rest =>
    obtain ⟨t', ht', ⟨-, hnot, -⟩, -⟩ := cabacBlockRaises maxN cat s c se idx log rest hs henv hlegal hparse
    cases ht.symm.trans ht'
    simp [hnot] at hdone
  | waiting log =>
    rw [hrun, runOn_of_waiting (accepted_follows cat s hlegal) (hbins ▸ hparse)] at hend
    cases hend

/-- A level of R161 in a COEF entry reads back (R32). -/
theorem coefWord_toInt_of_level {v : Int} (h : CabacLevel v) : (coefWord v).toInt = v := by
  unfold CabacLevel at h
  exact BitVec.toInt_ofInt_eq_self (by decide) (by omega) (by omega)

theorem coefWord_eq_zero_of_level {v : Int} (h : CabacLevel v) : coefWord v = 0 ↔ v = 0 := by
  rw [← BitVec.toInt_inj, coefWord_toInt_of_level h]
  rfl

/-- An entry of a list of levels. -/
theorem getD_level {xs : List Int} (h : ∀ v ∈ xs, CabacLevel v) (k : Nat) : CabacLevel (xs.getD k 0) :=
  Nat.lt_succ_iff.mp (natAbs_getD_lt (Nat.succ_pos _) (fun v hv => Nat.lt_succ_iff.mpr (h v hv)) k)

/-- Settles O30: the entries are those of the block, whose levels are within the bound of R161. -/
theorem cabacLevelsFit : Obligations.CabacLevelsFit := by
  intro maxN cat s t hs hlegal ht hdone k hk hlt
  obtain ⟨b, log, hb, -, -, -, -, -, -, -, -, -, -, -, -, -, -, -, -, hcoef⟩ := cabacBlock_of_done hs hlegal ht hdone
  have hlevel := getD_level hb.level k
  rw [(hcoef k hk).1 hlt, coefWord_toInt_of_level hlevel]
  exact hlevel

theorem toNat_ofNat_le64 {n : Nat} (h : n ≤ 64) : (BitVec.ofNat 32 n).toNat = n := by
  rw [BitVec.toNat_ofNat, Nat.mod_eq_of_lt (by omega)]

theorem ofNat_eq_zero_le64 {n : Nat} (h : n ≤ 64) : BitVec.ofNat 32 n = 0 ↔ n = 0 := by
  rw [← BitVec.toNat_inj, toNat_ofNat_le64 h]
  rfl

/-- Settles O29: the entries and the result registers are those of a block with the properties of R161 to R163, and the
log is the one of its pseudocode. -/
theorem cabacSignificanceInvariants : Obligations.CabacSignificanceInvariants := by
  intro maxN cat s t log hs hlegal ht hdone hlog
  obtain ⟨b, log', hb, -, -, -, -, -, -, -, -, htc, ht1, htz, hnum, hcbf, -, hlog', hlength, hcoef⟩ :=
    cabacBlock_of_done hs hlegal ht hdone
  obtain rfl := List.append_cancel_right (hlog.symm.trans hlog')
  have hmax := (cabacLegal_bounds hlegal).2.1
  obtain ⟨hlevel, hcount, hbt1, hbtz, htcle, hnumle, hcoded, hnotCoded, htop, habove, hscan, hflags⟩ := hb
  have htcNat : t.resTc.toNat = b.tc := by rw [htc, toNat_ofNat_le64 (by omega)]
  have hnumNat : t.resNumCoeff.toNat = b.numCoeff := by rw [hnum, toNat_ofNat_le64 (by omega)]
  have htcZero : t.resTc = 0 ↔ b.tc = 0 := by rw [htc, ofNat_eq_zero_le64 (by omega)]
  have hnumZero : t.resNumCoeff = 0 ↔ b.numCoeff = 0 := by rw [hnum, ofNat_eq_zero_le64 (by omega)]
  have hentry : ∀ k (hk : k < 64), k < maxN.toNat → (t.coef[k] = 0 ↔ b.coefs.getD k 0 = 0) := fun k hk hlt => by
    rw [(hcoef k hk).1 hlt, coefWord_eq_zero_of_level (getD_level hlevel k)]
  have hset : lastFlagsSet log'.reverse = lastFlagsSet log' := List.countP_reverse
  rw [hset, hflags, hcbf, htcNat, hnumNat, Ne, htcZero, hnumZero]
  refine ⟨?_, htcle, hnumle, ?_, ?_, ?_, ?_, fun k hk => ⟨fun hk' => ?_, fun hle hlt => ?_⟩,
    fun req a hmem => ?_, ?_, ?_⟩
  · rw [nonzeroCount, take_coef hmax hlength fun k hk => (hcoef k hk).1, List.countP_map, ← hcount]
    refine List.countP_congr fun v hv => ?_
    simpa using (coefWord_eq_zero_of_level (hlevel v hv)).not
  · rw [htz, hbtz, toNat_ofNat_le64 (by omega)]
  · rw [ht1, hbt1]
    rfl
  · rw [← Ne, ← hcoded]
    cases b.cbf <;> simp
  · rw [← hnotCoded]
    cases b.cbf <;> simp
  · rw [Ne, hentry k hk (by omega)]
    exact htop k hk'
  · rw [hentry k hk hlt]
    exact habove k hle
  · exact hscan req a (List.mem_reverse.mp hmem)
  · split <;> omega
  · cases b.cbf <;> simp

end Sys2Proof.Machine

/-! ## Every block has a bin string -/

namespace Sys2Proof.Machine

open Sys2Proof.Claims

/-- Some bin string makes `p` give `v`, whatever follows it: one bin a transaction. (`Reads` is the same for bits, whose
transactions are the string itself; those of bins carry their requests.) -/
def Decodes {α : Type} (p : Parser α) (v : α) : Prop :=
  ∃ w : List Bool, ∀ rest, ∃ log : List Transaction, log.length = w.length ∧ p (asAnswers w ++ rest) = .got v log rest

section
variable {α β : Type} {p : Parser α} {f : α → Parser β} {v : α} {u : β}

theorem decodes_give (v : α) : Decodes (pGive v) v := ⟨[], fun _ => ⟨[], rfl, rfl⟩⟩

theorem decodes_then (hp : Decodes p v) (hf : Decodes (f v) u) : Decodes (pThen p f) u := by
  obtain ⟨w, hw⟩ := hp
  obtain ⟨w', hw'⟩ := hf
  refine ⟨w ++ w', fun rest => ?_⟩
  obtain ⟨log, hlen, hgot⟩ := hw (asAnswers w' ++ rest)
  obtain ⟨log', hlen', hgot'⟩ := hw' rest
  refine ⟨log ++ log', by simp [hlen, hlen'], ?_⟩
  rw [asAnswers_append, List.append_assoc, pThen, hgot]
  exact congrArg (Parsed.after · log) hgot'

theorem decodes_map {g : α → β} (hp : Decodes p v) : Decodes (pThen p fun v => pGive (g v)) (g v) :=
  decodes_then hp (decodes_give _)

end

section
variable {o : CabacOperands} {i gt1 eq1 : Nat}

theorem decodes_bin {se : SyntaxElement} {binIdx idx : Nat} {bypass : Bool} (b : Bool) :
    Decodes (pBin o se binIdx bypass idx gt1 eq1) b := ⟨[b], fun _ => ⟨[_], rfl, rfl⟩⟩

/-- `m` ones, ended by a 0 when fewer than the most (R156). -/
theorem decodes_absPrefix {n m : Nat} (p : Nat) (h : m ≤ n) : Decodes (pAbsPrefix o i gt1 eq1 n p) (p + m) := by
  induction n generalizing m p with
  | zero =>
    obtain rfl := Nat.le_zero.mp h
    exact decodes_give p
  | succ n ih =>
    cases m with
    | zero => exact decodes_then (decodes_bin false) (decodes_give p)
    | succ m =>
      rw [← Nat.add_assoc, Nat.add_right_comm]
      exact decodes_then (decodes_bin true) (ih (p + 1) (Nat.le_of_succ_le_succ h))

/-- `m` ones and a 0 raise the order by `m` (R157). -/
theorem decodes_absUnary {n k m suffix : Nat} (h : m ≤ n) (hsum : suffix + 1 = 2 ^ k) :
    Decodes (pAbsUnary o i gt1 eq1 n k suffix) (k + m, 2 ^ (k + m) - 1) := by
  induction m generalizing n k suffix with
  | zero =>
    rw [pAbsUnary.eq_def, Nat.add_zero, ← hsum, Nat.add_sub_cancel]
    exact decodes_then (decodes_bin false) (decodes_give _)
  | succ m ih =>
    cases n with
    | zero => exact absurd h (Nat.not_succ_le_zero m)
    | succ n =>
      rw [pAbsUnary.eq_def, ← Nat.add_assoc, Nat.add_right_comm]
      exact decodes_then (decodes_bin true) (ih (Nat.le_of_succ_le_succ h) (by rw [pow_succ]; omega))

/-- Every value of `k` bits (R157). -/
theorem decodes_absBits {k r : Nat} (binIdx suffix : Nat) (h : r < 2 ^ k) :
    Decodes (pAbsBits o i gt1 eq1 k binIdx suffix) (suffix + r) := by
  induction k generalizing binIdx suffix r with
  | zero =>
    obtain rfl : r = 0 := Nat.lt_one_iff.mp h
    exact decodes_give suffix
  | succ k ih =>
    have hnext : ∀ (b : Bool) (r' : Nat), r' < 2 ^ k → r = b.toNat * 2 ^ k + r' →
        Decodes (pAbsBits o i gt1 eq1 (k + 1) binIdx suffix) (suffix + r) := by
      rintro b r' hr' rfl
      rw [← Nat.add_assoc]
      exact decodes_then (decodes_bin b) (ih _ _ hr')
    by_cases hlt : r < 2 ^ k
    · exact hnext false r hlt (by simp)
    · rw [pow_succ] at h
      exact hnext true (r - 2 ^ k) (by omega) (by simp; omega)

/-- Every magnitude minus one up to the bound of R161: from 14 on, its excess over 13 has its leading bit in the unary
part and its other bits after it (R156, R157). -/
theorem decodes_absLevelMinus1 {v : Nat} (h : v ≤ 2 ^ 30 + 12) : Decodes (pAbsLevelMinus1 o i gt1 eq1) v := by
  by_cases hlt : v < 14
  · refine decodes_then (v := 0 + v) (decodes_absPrefix 0 hlt.le) ?_
    rw [Nat.zero_add, if_pos hlt]
    exact decodes_give v
  · have hlow : 2 ^ (v - 13).log2 ≤ v - 13 := Nat.log2_self_le (by omega)
    have hhigh : v - 13 < 2 ^ ((v - 13).log2 + 1) := Nat.lt_log2_self
    have hk : (v - 13).log2 < 30 := (Nat.log2_lt (by omega)).mpr (by omega)
    generalize (v - 13).log2 = k at hlow hhigh hk
    refine decodes_then (v := 0 + 14) (decodes_absPrefix 0 le_rfl) ?_
    rw [Nat.zero_add, if_neg (lt_irrefl _)]
    refine decodes_then (v := (0 + k, 2 ^ (0 + k) - 1)) (decodes_absUnary (Nat.le_of_lt_succ hk) rfl) ?_
    rw [Nat.zero_add]
    have hbits := decodes_absBits (o := o) (i := i) (gt1 := gt1) (eq1 := eq1) (k := k) (r := v - 13 - 2 ^ k)
      (14 + k + 1) (2 ^ k - 1) (by rw [pow_succ] at hhigh; omega)
    have hpos : 0 < 2 ^ k := Nat.two_pow_pos k
    have hv : v = 14 + (2 ^ k - 1 + (v - 13 - 2 ^ k)) := by omega
    exact hv ▸ decodes_map (g := (14 + ·)) hbits

/-- The bins of a level are those of its magnitude and its sign (R159). -/
theorem signedLevel_natAbs {v : Int} (h : v ≠ 0) : signedLevel (v.natAbs - 1) (decide (v < 0)) = v := by
  unfold signedLevel
  split
  next hneg =>
    rw [decide_eq_true_iff] at hneg
    omega
  next hpos =>
    rw [decide_eq_true_iff] at hpos
    omega

/-- The level walk over the marks of levels can give just these levels (R155). -/
theorem decodes_walk {vs : List Int} (hvs : ∀ v ∈ vs, CabacLevel v) (gt1 eq1 : Nat) :
    Decodes (pWalk o (vs.map mark) gt1 eq1) vs := by
  induction vs generalizing gt1 eq1 with
  | nil => exact decodes_give []
  | cons v vs ih =>
    obtain ⟨hv, hbelow⟩ := List.forall_mem_cons.mp hvs
    rw [List.map_cons]
    by_cases h0 : v = 0
    · subst h0
      exact decodes_map (g := (0 :: ·)) (ih hbelow gt1 eq1)
    · rw [show mark v = true from decide_eq_true h0, pWalk]
      unfold CabacLevel at hv
      refine decodes_then (v := v.natAbs - 1) (decodes_absLevelMinus1 (by omega)) ?_
      refine decodes_then (decodes_bin (decide (v < 0))) ?_
      rw [signedLevel_natAbs h0]
      refine decodes_map (g := (v :: ·)) ?_
      split
      next => exact ih hbelow _ _
      next => exact ih hbelow _ _

/-- The scan can give every map whose top mark is 1 (R152 to R154). -/
theorem decodes_scan {n : Nat} {ms : List Bool} (i : Nat) (h : ms.length ≤ n) :
    Decodes (pScan o n i) (ms ++ [true]) := by
  induction n generalizing ms i with
  | zero =>
    obtain rfl := List.length_eq_zero_iff.mp (Nat.le_zero.mp h)
    exact decodes_give [true]
  | succ n ih =>
    cases ms with
    | nil => exact decodes_then (decodes_bin true) (decodes_then (decodes_bin true) (decodes_give [true]))
    | cons m ms =>
      have hrest := decodes_map (g := (m :: ·)) (ih (i + 1) (Nat.le_of_succ_le_succ h))
      cases m with
      | false => exact decodes_then (decodes_bin false) hrest
      | true => exact decodes_then (decodes_bin true) (decodes_then (decodes_bin false) hrest)

theorem padBlock_concat_zero {n : Nat} {cs : List Int} (h : cs.length ≤ n) :
    padBlock n cs ++ [0] = padBlock (n + 1) cs := by
  rw [padBlock, padBlock, List.append_assoc, Nat.succ_sub h, List.replicate_succ']

/-- A list is all zeros, or has a last entry that is not 0. -/
theorem exists_padBlock (xs : List Int) : xs = padBlock xs.length [] ∨
    ∃ cs v, v ≠ 0 ∧ (cs ++ [v]).length ≤ xs.length ∧ xs = padBlock xs.length (cs ++ [v]) := by
  induction xs using List.reverseRecOn with
  | nil => exact .inl rfl
  | append_singleton xs x ih =>
    rw [List.length_append, List.length_singleton]
    by_cases h0 : x = 0
    · subst h0
      obtain hzero | ⟨cs, v, hv, hle, hpad⟩ := ih
      · exact .inl ((congrArg (· ++ [0]) hzero).trans (padBlock_concat_zero (Nat.zero_le _)))
      · exact .inr ⟨cs, v, hv, hle.trans (Nat.le_succ _), (congrArg (· ++ [0]) hpad).trans (padBlock_concat_zero hle)⟩
    · exact .inr ⟨xs, x, h0, by simp, by simp [padBlock]⟩

/-- Every block of levels of R161 has a bin string that the pseudocode reads exactly (R150). -/
theorem decodes_cabac {xs : List Int} (hlen : xs.length = o.maxN.toNat) (hxs : ∀ v ∈ xs, CabacLevel v)
    (h64 : o.maxN.toNat = 64 → ∃ v ∈ xs, v ≠ 0) : ∃ b : Block, b.coefs = xs ∧ Decodes (pCabac o) b := by
  obtain hzero | ⟨cs, v, hv, hle, hpad⟩ := exists_padBlock xs
  · have hne : o.maxN.toNat ≠ 64 := fun h => by
      obtain ⟨v, hmem, hv⟩ := h64 h
      rw [hzero] at hmem
      exact hv (List.eq_of_mem_replicate hmem)
    refine ⟨{ coefs := padBlock o.maxN.toNat [], tc := 0, t1 := 0, tz := 0, numCoeff := 0, cbf := false },
      hlen ▸ hzero.symm, ?_⟩
    rw [pCabac, pCodedBlockFlag, if_neg hne]
    exact decodes_then (decodes_bin false) (decodes_give _)
  · have hflag : Decodes (pCodedBlockFlag o) true := by
      unfold pCodedBlockFlag
      split
      next => exact decodes_give true
      next => exact decodes_bin true
    have hlevels : ∀ u ∈ (cs ++ [v]).reverse, CabacLevel u := fun u hu =>
      hxs u (by rw [hpad]; exact List.mem_append_left _ (List.mem_reverse.mp hu))
    have hmarks : cs.map mark ++ [true] = (cs ++ [v]).map mark := by simp [mark, hv]
    have hcs : cs.length ≤ o.maxN.toNat - 1 := by
      rw [List.length_append, List.length_singleton] at hle
      omega
    have hscan := decodes_scan (o := o) (n := o.maxN.toNat - 1) (ms := cs.map mark) 0 (by simpa using hcs)
    have hwalk := decodes_walk (o := o) hlevels 0 0
    rw [List.map_reverse] at hwalk
    rw [hmarks] at hscan
    refine ⟨_, ?_, decodes_then hflag (decodes_then hscan (decodes_map hwalk))⟩
    rw [List.reverse_reverse, ← hlen]
    exact hpad.symm

end

/-- Settles O31: the pseudocode reads a bin string of the block exactly, so the command completes with the block. -/
theorem cabacDecodesEveryBlock : Obligations.CabacDecodesEveryBlock := by
  intro maxN cat xs hlegal hlen hxs h64
  obtain ⟨b, rfl, code, hcode⟩ := decodes_cabac (o := ⟨maxN, cat⟩) hlen hxs h64
  refine ⟨code, fun s rest hready henv hbins => ?_⟩
  obtain ⟨log, hlog, hparse⟩ := hcode rest
  obtain ⟨t, ht, ⟨-, hdone, -, -, -, -, -, -, -, -, -, -, -, hcount, -, -, hcoef⟩, hrest, -⟩ :=
    cabacBlockCompletes maxN cat s b log rest hready henv hlegal (hbins ▸ hparse)
  exact ⟨t, ht, hdone, hrest, hlog ▸ hcount, fun k hk => (hcoef k hk).1⟩

end Sys2Proof.Machine

/-! ## What the acceptance, the drop and the refusal of a command word write -/

namespace Sys2Proof.Machine

open Sys2Proof.Claims

section
variable {s : State}

/-- The start of a command's own rule writes no COEF entry: the scan of a CABAC_BLOCK of 64 coefficients, which begins
at acceptance, has all its positions before it (R151, R152). -/
theorem startOf_coef (i : Instr) (s : State) : (startOf i s).coef = s.coef := by
  cases i with
  | cavlcBlock maxN nC => rfl
  | cabacBlock maxN cat =>
    change (startCabac s).coef = s.coef
    unfold startCabac
    split
    next h64 =>
      rw [startScan, nextScan_of_lt (show 0 + 1 < s.maxNum by omega)]
      rfl
    next => rfl
  | zeroBlock maxN => rfl

/-- The start of a command's own rule consumes nothing (R182). -/
theorem startOf_count (i : Instr) (s : State) : (startOf i s).work.count = s.work.count := by
  cases i with
  | cavlcBlock maxN nC => rfl
  | cabacBlock maxN cat =>
    obtain ⟨-, -, hcount⟩ := startCabac_carriesOn s
    exact hcount
  | zeroBlock maxN => rfl

/-- What acceptance writes of the outcome of a command: DONE is cleared, the rest is as before (R182). -/
theorem accepted_keepsOutcome (i : Instr) (s : State) : KeepsOutcome { s with done := false } (accepted i s) :=
  have h := ((startOf_progress i _).keepsOutcome (accepted_flags i s).1).1
  ⟨h.done, h.err, h.errCode, h.errSe, h.errIdx, h.resTc, h.resT1, h.resTz, h.resNumCoeff, h.resCbf, h.resCount,
    h.draws⟩

theorem accepted_sameResults (i : Instr) (s : State) : SameResults s (accepted i s) :=
  have h := accepted_keepsOutcome i s
  ⟨h.resTc, h.resT1, h.resTz, h.resNumCoeff, h.resCbf, startOf_coef i _⟩

theorem accepted_samePorts (i : Instr) (s : State) : SamePorts s (accepted i s) :=
  (startOf_progress i (latch (encode i) { s with cmd := encode i, done := false })).samePorts

/-- A command is dropped while BUSY or in ERROR (R183). -/
theorem exec_of_pending (h : s.busy = true ∨ s.err = true) (i : Instr) : exec i s = .next { s with ovr := true } := by
  obtain ⟨-, ht⟩ | ⟨hb, he, -⟩ | ⟨hb, he, -⟩ := exec_cases (exec_eq i s)
  · rw [exec_eq, ht]
  · simp [hb, he] at h
  · simp [hb, he] at h

/-- Any word is dropped while BUSY or in ERROR, a command or not (R183). -/
theorem writeCmd_of_pending (h : s.busy = true ∨ s.err = true) (w : Word) :
    writeCmd w s = .next { s with ovr := true } := by
  obtain ⟨t, ht, -⟩ := writeCmd_next w s
  obtain ⟨-, rfl⟩ | ⟨hb, he, -⟩ | ⟨hb, he, -⟩ := writeCmd_cases ht
  · exact ht
  · simp [hb, he] at h
  · simp [hb, he] at h

end

/-- Settles O6: with an event to come a legal word leaves the state `accepted`, whose operands are the word's fields;
any other word is refused. -/
theorem acceptanceIsOneAtomicStep : Obligations.AcceptanceIsOneAtomicStep := by
  refine fun w s hs => ⟨fun i hw hwf henv => ?_, fun hill => ?_⟩
  · obtain rfl := encode_of_decode hw
    have hctl := accepted_keepsControl i s
    have hout := accepted_keepsOutcome i s
    obtain ⟨hop, hmaxN, hnC, hcat⟩ := hctl.operands
    obtain ⟨hb, herr⟩ := accepted_flags i s
    refine ⟨accepted i s, ?_, hctl.cmd, hout.done, hb, herr.trans hs.2.1, hctl.ovr, hop, hmaxN, hnC, hcat,
      startOf_count i _, hout.resCount, accepted_samePorts i s, accepted_sameResults i s⟩
    have henv' : (accepted i s).env ≠ [] := hctl.env ▸ henv
    rw [writeCmd_of_ok hw, exec_of_wellFormed hs hwf, proceed_of_events henv']
  · cases hw : decode w with
    | ok i =>
      obtain rfl := encode_of_decode hw
      rw [writeCmd_of_ok hw, exec_of_illFormed hs (hill i hw)]
      exact ⟨_, rfl, rfl, rfl, rfl, refusedWith_raiseCommand .illegalOperand (encode i) s⟩
    | illegal e =>
      rw [writeCmd_of_illegal hw, submitIllegal_of_ready hs]
      exact ⟨_, rfl, rfl, rfl, rfl, refusedWith_raiseCommand .illegalCommand w s⟩

/-- Settles O7: each way to submit a command drops it, and irq does not depend on OVR. -/
theorem commandDroppedWhileBusyOrError : Obligations.CommandDroppedWhileBusyOrError := fun w _ h =>
  ⟨writeCmd_of_pending h w, rfl, exec_of_pending h⟩

/-- An accepted ZERO_BLOCK with no event to come ends with its zero-fill (R180, R184). -/
theorem runOn_accepted_zeroBlock (maxN : BitVec 7) (s : State) :
    runOn (accepted (.zeroBlock maxN) s) = zeroFinishStep (accepted (.zeroBlock maxN) s) := by
  have hstep : rcdStep (accepted (.zeroBlock maxN) s) = zeroFinishStep (accepted (.zeroBlock maxN) s) :=
    rcdStep_of_zeroFinish rfl rfl
  rw [← hstep]
  exact runOn_of_end (n := 0) (by rw [rcdSteps_zero, hstep]; rfl)

/-- Settles O9: the accepted command takes its one step, which zeroes the entries below its operand. -/
theorem zeroBlockCompletes : Obligations.ZeroBlockCompletes := by
  intro maxN s hs henv hlo hhi
  have hwf : (Instr.zeroBlock maxN).wellFormed = true := by simp [Instr.wellFormed, zeroLegal, hlo, hhi]
  have hexec := exec_ready hs henv hwf
  rw [runOn_accepted_zeroBlock] at hexec
  obtain ⟨⟨-, -, -, -, -, hkept, -, -⟩, hports, -⟩ := zeroBlockFrame maxN s _ hexec
  have hmaxN : (accepted (.zeroBlock maxN) s).maxNum = maxN.toNat := congrArg BitVec.toNat (maxNField_cmd32 ..)
  refine ⟨_, hexec, rfl, rfl, hs.2.1, rfl, rfl, rfl, rfl, rfl, rfl, rfl, hports,
    fun k hk => ⟨fun hlt => ?_, hkept k hk⟩⟩
  change (zeroRange 0 (accepted (.zeroBlock maxN) s).maxNum _)[k] = 0
  rw [zeroRange_get, hmaxN, if_pos ⟨Nat.zero_le k, hlt⟩]

end Sys2Proof.Machine

/-! ## Host writes to CTRL, STATUS and the registers that ignore them -/

namespace Sys2Proof.Machine

open Sys2Proof.Claims

section
variable {s : State}

/-- STATUS, ERRINFO, CMD and the results after a reset of either kind (R230, R232). -/
theorem clearRegisters_registers (s : State) :
    (clearRegisters s).statusWord = 0 ∧ (clearRegisters s).errInfoWord = 0 ∧ (clearRegisters s).cmd = 0 ∧
    (clearRegisters s).resTc = 0 ∧ (clearRegisters s).resT1 = 0 ∧ (clearRegisters s).resTz = 0 ∧
    (clearRegisters s).resNumCoeff = 0 ∧ (clearRegisters s).resCbf = 0 ∧ (clearRegisters s).resCount = 0 := by
  refine ⟨?_, ?_, rfl, rfl, rfl, rfl, rfl, rfl, rfl⟩
  · simp [State.statusWord, flagBit]
  · simp [State.errInfoWord]

theorem softReset_samePorts (s : State) : SamePorts s (softReset s) := by
  unfold softReset
  split <;> simp [SamePorts]

/-- A soft reset leaves the entries that an executing command does not own (R232). -/
theorem softReset_coef_kept {k : Nat} (hk : k < 64) (h : s.busy = false ∨ s.maxNum ≤ k) :
    (softReset s).coef[k] = s.coef[k] := by
  unfold softReset
  split
  next hb =>
    have hle : s.maxNum ≤ k := h.resolve_left (by simp [hb])
    simp only [clearRegisters_coef, freeCoefs_coef, if_neg hle.not_gt]
  next => rfl

theorem writeCtrl_samePorts (w : Word) (s : State) : SamePorts s (writeCtrl w s) := by
  cases hw : w.getLsbD 31 with
  | false =>
    rw [writeCtrl_of_srst_zero hw]
    exact ⟨rfl, rfl, rfl⟩
  | true =>
    rw [writeCtrl_of_srst_one hw]
    exact softReset_samePorts _

end

/-- Settles O41: the enables are set before the soft reset, which keeps them, and after it nothing executes. -/
theorem ctrlWriteAndSoftReset : Obligations.CtrlWriteAndSoftReset := by
  intro w s hr
  obtain ⟨hdone, herr, -⟩ := writeCtrl_control w { s with resp := some .done }
  refine ⟨_, hostAccess_write_ctrl hr w, hdone, herr, writeCtrl_samePorts w _, writeCtrl_resp w _,
    writeCtrl_of_srst_zero, fun hw => ?_⟩
  rw [writeCtrl_of_srst_one hw]
  obtain ⟨hstatus, hinfo, hcmd, htc, ht1, htz, hnum, hcbf, hcount⟩ := clearRegisters_registers _
  exact ⟨hstatus, hinfo, hcmd, htc, ht1, htz, hnum, hcbf, hcount, softReset_irq _, rcdStep_of_not_busy rfl,
    fun k hk => softReset_coef_kept
      (s := { s with resp := some .done, ieDone := w.getLsbD 0, ieErr := w.getLsbD 1 }) hk⟩

/-- Settles O40: the write reaches `writeStatus`, whose flags are those of `writeStatus_eq`. -/
theorem statusWriteClears : Obligations.StatusWriteClears := by
  intro w s hr
  rw [hostAccess_write_status hr, writeStatus_eq]

/-- Settles O42: the offset is that of no register with a write rule of its own. -/
theorem otherHostWritesIgnored : Obligations.OtherHostWritesIgnored := by
  intro off w s hr hoff hctrl hstatus hcmd
  rw [hostAccess_write hr hoff, if_neg (show off ≠ offCmd from hcmd), if_neg (show off ≠ offCtrl from hctrl),
    if_neg (show off ≠ offStatus from hstatus)]

end Sys2Proof.Machine

/-! ## What an internal step takes, counts and raises -/

namespace Sys2Proof.Machine

open Sys2Proof.Claims

/-- From `s` to `t` the error `code` is raised, in an element of the block and not in the command word, after updates
of the internal registers alone, which consume nothing and keep maxN (R200, R210). -/
def Raises (code : ErrorCode) (s t : State) : Prop :=
  ∃ se idx w, se ≠ .commandWord ∧ t = raiseDecode code se idx { s with work := w } ∧
    w.maxN = s.work.maxN ∧ w.count = s.work.count

/-- What follows from an answer 0 or 1 of a port: the command goes on, having consumed nothing more, or it raises one
of the two errors that a codeword or a value read can be (R121, R166). -/
inductive Continues (s t : State) : Prop
  | goesOn (hb : t.busy = true) (hlog : t.portLog = s.portLog) (hcount : t.work.count = s.work.count)
  | raises {code : ErrorCode} (hcode : code = .invalidSyntax ∨ code = .streamCorrupt) (h : Raises code s t)

/-- The transaction `x` takes the first answer of its port (R55, R58). -/
inductive Takes (s : State) : Transaction → State → Prop
  | bit {a : Answer} {rest : List Answer} (h : s.bits = a :: rest) :
    Takes s (.bitRead a) { s with bits := rest, portLog := .bitRead a :: s.portLog }
  | bin {a : Answer} {rest : List Answer} (req : BinRequest) (h : s.bins = a :: rest) :
    Takes s (.binRead req a) { s with bins := rest, portLog := .binRead req a :: s.portLog }

/-- One more bit or bin is consumed (R212). -/
def counted (s : State) : State := { s with work := { s.work with count := s.work.count + 1 } }

/-- What an internal step of a BUSY command can be (R184): it waits (R251), it completes, an answer 0 or 1 is taken and
counted and the updates that follow from it are made, or EOS is taken and END_OF_STREAM raised (R212). -/
inductive StepOutcome (s t : State) : Prop
  | waits (h : t = s)
  | completes {tc t1 tz n : Nat} {b : Bool} {w : Work} {c : Vector Word 64}
    (h : t = complete tc t1 tz n b { s with work := w, coef := c }) (hcount : w.count = s.work.count)
  | answered {x : Transaction} {u : State} (hu : Takes s x u) (hx : answered x = true) (ht : Continues (counted u) t)
  | exhausted {x : Transaction} {u : State} (hu : Takes s x u) (hx : answered x = false)
    (ht : Raises .endOfStream u t)

section
variable {s t u : State}

theorem raises_raiseDecode {code : ErrorCode} {se : SyntaxElement} (hse : se ≠ .commandWord) (idx : Nat) {w : Work}
    (hmaxN : w.maxN = s.work.maxN) (hcount : w.count = s.work.count) :
    Raises code s (raiseDecode code se idx { s with work := w }) := ⟨se, idx, w, hse, rfl, hmaxN, hcount⟩

/-- Updates of the internal registers that consume nothing may come before. -/
theorem Continues.after {w : Work} (h : Continues { s with work := w } t) (hmaxN : w.maxN = s.work.maxN)
    (hcount : w.count = s.work.count) : Continues s t := by
  obtain ⟨hb, hlog, hcount'⟩ | ⟨hcode, se, idx, w', hse, rfl, hmaxN', hcount'⟩ := h
  · exact .goesOn hb hlog (hcount'.trans hcount)
  · exact .raises hcode (raises_raiseDecode hse idx (hmaxN'.trans hmaxN) (hcount'.trans hcount))

/-- A check that raises an error, or else goes on. -/
theorem continues_check {code : ErrorCode} {se : SyntaxElement} {idx : Nat} {w : Work} (wrong : Prop)
    [Decidable wrong] (hcode : code = .invalidSyntax ∨ code = .streamCorrupt) (hse : se ≠ .commandWord)
    (hmaxN : w.maxN = s.work.maxN) (hcount : w.count = s.work.count) (ht : Continues s t) :
    Continues s (if wrong then raiseDecode code se idx { s with work := w } else t) := by
  split
  · exact .raises hcode (raises_raiseDecode hse idx hmaxN hcount)
  · exact ht

/-- Updates of CAVLC_BLOCK that raise no error, on updates of the internal registers. -/
theorem GoesOn.continues {w : Work} (h : GoesOn { s with work := w } t) (hb : s.busy = true)
    (hcount : w.count = s.work.count) : Continues s t :=
  have ⟨hbusy, _, hlog, hcount'⟩ := h
  .goesOn (hbusy.trans hb) hlog (hcount'.trans hcount)

/-- Updates of CABAC_BLOCK that raise no error, on updates of the internal registers and of COEF. -/
theorem CarriesOn.continues {w : Work} {c : Vector Word 64} (h : CarriesOn { s with work := w, coef := c } t)
    (hbusy : t.busy = s.busy) (hb : s.busy = true) (hcount : w.count = s.work.count) : Continues s t :=
  have ⟨_, hlog, hcount'⟩ := h
  .goesOn (hbusy.trans hb) hlog (hcount'.trans hcount)

theorem coeffTokenFound_continues (v : Nat × Nat) (hb : s.busy = true) : Continues s (coeffTokenFound v s) := by
  unfold coeffTokenFound
  refine continues_check _ (.inr rfl) (by decide) rfl rfl ?_
  split
  · exact .goesOn hb rfl rfl
  · exact (nextLevel_goesOn _).continues hb rfl

theorem totalZerosFound_continues (v : Nat) (hb : s.busy = true) : Continues s (totalZerosFound v s) :=
  continues_check _ (.inr rfl) (by decide) rfl rfl ((startRuns_goesOn _).continues hb rfl)

theorem runBeforeFound_continues (v : Nat) (hb : s.busy = true) : Continues s (runBeforeFound v s) :=
  continues_check (w := s.work) _ (.inr rfl) (by decide) rfl rfl ((nextRun_goesOn _).continues hb rfl)

/-- One bit of a codeword (R101). -/
theorem vlcStep_continues {α : Type} {T : VlcTable α} {se : SyntaxElement} {idx : Nat} {found : α → State → State}
    (hse : se ≠ .commandWord) (hf : ∀ v s, s.busy = true → Continues s (found v s)) (b : Bool)
    (hb : s.busy = true) : Continues s (vlcStep T se idx found b s) := by
  unfold vlcStep
  split
  · exact .after (hf _ _ hb) rfl rfl
  · exact .goesOn hb rfl rfl
  · exact .raises (.inl rfl) (raises_raiseDecode (w := s.work) hse idx rfl rfl)

/-- A bit read has the outcomes of a step. -/
theorem bitRead_outcome {se : SyntaxElement} {idx : Nat} {k : Bool → State → State} (hse : se ≠ .commandWord)
    (hb : s.busy = true) (hk : ∀ b u, u.busy = true → Continues u (k b u)) : StepOutcome s (bitRead se idx k s) := by
  obtain ⟨-, ht⟩ | ⟨rest, hbits, ht⟩ | ⟨b, rest, hbits, ht⟩ := bitRead_cases se idx k s <;> rw [ht]
  · exact .waits rfl
  · exact .exhausted (.bit hbits) rfl (raises_raiseDecode (w := s.work) hse idx rfl rfl)
  · exact .answered (.bit hbits) rfl (hk b _ hb)

/-- A bin read has the outcomes of a step. -/
theorem binRead_outcome {se : SyntaxElement} {binIdx idx : Nat} {bypass : Bool} {k : Bool → State → State}
    (hse : se ≠ .commandWord) (hb : s.busy = true) (hk : ∀ b u, u.busy = true → Continues u (k b u)) :
    StepOutcome s (binRead se binIdx bypass idx k s) := by
  obtain ⟨-, ht⟩ | ⟨rest, hbins, ht⟩ | ⟨b, rest, hbins, ht⟩ := binRead_cases se binIdx bypass idx k s <;> rw [ht]
  · exact .waits rfl
  · exact .exhausted (.bin _ hbins) rfl (raises_raiseDecode (w := s.work) hse idx rfl rfl)
  · exact .answered (.bin (binRequest se binIdx bypass idx s) hbins) rfl (hk b _ hb)

theorem vlcRead_outcome {α : Type} {T : VlcTable α} {se : SyntaxElement} {idx : Nat} {found : α → State → State}
    (hse : se ≠ .commandWord) (hf : ∀ v s, s.busy = true → Continues s (found v s)) (hb : s.busy = true) :
    StepOutcome s (vlcRead T se idx found s) :=
  bitRead_outcome hse hb fun b _ => vlcStep_continues hse hf b

theorem levelPrefixStep_outcome (hb : s.busy = true) : StepOutcome s (levelPrefixStep s) := by
  refine bitRead_outcome (by decide) hb fun b u hu => ?_
  split
  · exact (startLevelSuffix_goesOn u).continues hu rfl
  · exact continues_check _ (.inl rfl) (by decide) rfl rfl (.goesOn hu rfl rfl)

theorem levelSuffixStep_outcome (hb : s.busy = true) : StepOutcome s (levelSuffixStep s) := by
  refine bitRead_outcome (by decide) hb fun b u hu => ?_
  dsimp only
  split
  · exact (finishLevel_goesOn _).continues hu rfl
  · exact .goesOn hu rfl rfl

theorem codedBlockFlagStep_outcome (hb : s.busy = true) : StepOutcome s (codedBlockFlagStep s) := by
  refine binRead_outcome (by decide) hb fun b u hu => ?_
  dsimp only
  split
  · exact (nextScan_carriesOn _).continues (nextScan_busy _) hu rfl
  · exact .goesOn hu rfl rfl

theorem significanceStep_outcome (hb : s.busy = true) : StepOutcome s (significanceStep s) := by
  refine binRead_outcome (by decide) hb fun b u hu => ?_
  dsimp only
  split
  · exact .goesOn hu rfl rfl
  · exact (nextScan_carriesOn _).continues (nextScan_busy _) hu rfl

theorem absPrefixStep_outcome (hb : s.busy = true) : StepOutcome s (absPrefixStep s) := by
  refine binRead_outcome (by decide) hb fun b u hu => ?_
  dsimp only
  split_ifs <;> exact .goesOn hu rfl rfl

theorem absUnaryStep_outcome (hb : s.busy = true) : StepOutcome s (absUnaryStep s) := by
  refine binRead_outcome (by decide) hb fun b u hu => ?_
  dsimp only
  split
  · exact continues_check _ (.inl rfl) (by decide) rfl rfl (.goesOn hu rfl rfl)
  · split <;> exact .goesOn hu rfl rfl

theorem absBitsStep_outcome (hb : s.busy = true) : StepOutcome s (absBitsStep s) := by
  refine binRead_outcome (by decide) hb fun b u hu => ?_
  dsimp only
  split <;> exact .goesOn hu rfl rfl

/-- Every internal step of a BUSY command has one of the four outcomes, whatever the internal registers hold. -/
theorem rcdStep_outcome (hb : s.busy = true) : StepOutcome s (rcdStep s) := by
  unfold rcdStep
  rw [if_pos hb]
  split
  · exact .waits rfl
  · exact vlcRead_outcome (by decide) (fun v _ => coeffTokenFound_continues v) hb
  · exact bitRead_outcome (by decide) hb fun _ _ hu => (nextLevel_goesOn _).continues hu rfl
  · exact levelPrefixStep_outcome hb
  · exact levelSuffixStep_outcome hb
  · exact vlcRead_outcome (by decide) (fun v _ => totalZerosFound_continues v) hb
  · exact vlcRead_outcome (by decide) (fun v _ => runBeforeFound_continues v) hb
  · exact .completes (w := (scatter s).work) (c := (scatter s).coef) rfl rfl
  · exact codedBlockFlagStep_outcome hb
  · exact significanceStep_outcome hb
  · exact binRead_outcome (by decide) hb fun _ _ hu => (nextScan_carriesOn _).continues (nextScan_busy _) hu rfl
  · exact absPrefixStep_outcome hb
  · exact absUnaryStep_outcome hb
  · exact absBitsStep_outcome hb
  · exact binRead_outcome (by decide) hb fun _ _ hu =>
      (levelWalk_carriesOn _ _).continues (levelWalk_busy _ _) hu rfl
  · exact .completes (w := s.work) rfl rfl
  · exact .completes (w := s.work) rfl rfl

end

/-! ### The step that raises an error -/

section
variable {s t u : State} {x : Transaction}

/-- The transaction itself changes no register. -/
theorem Takes.registers (h : Takes s x u) : u.coef = s.coef ∧ u.done = s.done ∧ u.maxNum = s.maxNum := by
  cases h <;> exact ⟨rfl, rfl, rfl⟩

/-- The step that raises an error, from any BUSY state: with what code it does so, and that it has written no COEF
entry, not DONE and not maxN before (R200, R213). -/
theorem rcdStep_raises (hb : s.busy = true) (he : s.err = false) (herr : (rcdStep s).err = true) :
    ∃ code u, (code = .invalidSyntax ∨ code = .streamCorrupt ∨ code = .endOfStream) ∧ Raises code u (rcdStep s) ∧
      u.coef = s.coef ∧ u.done = s.done ∧ u.maxNum = s.maxNum := by
  obtain h | ⟨h, -⟩ | ⟨hu, -, ⟨hb', -⟩ | ⟨hcode, h⟩⟩ | ⟨hu, -, h⟩ := rcdStep_outcome hb
  · simp [h, he] at herr
  · simp [h, he] at herr
  · obtain ⟨-, hkept, -⟩ := rcdStep_keepsOutcome hb'
    simp [hkept.err, he] at herr
  · exact ⟨_, counted _, hcode.imp_right .inl, h, hu.registers⟩
  · exact ⟨_, _, .inr (.inr rfl), h, hu.registers⟩

theorem SyntaxElement.ofNat_code_ne_zero {se : SyntaxElement} (h : se ≠ .commandWord) :
    BitVec.ofNat 8 se.code ≠ 0 := by
  cases se with
  | commandWord => exact absurd rfl h
  | _ => decide

end

/-- Settles O39: the step writes neither COEF nor DONE nor maxN before it raises the error, whatever the internal
registers held. -/
theorem decodingErrorIsPrecise : Obligations.DecodingErrorIsPrecise := by
  intro s hb he herr
  obtain ⟨code, u, hcode, ⟨se, idx, w, hse, h, hmaxN, -⟩, hcoef, hdone, hmax⟩ := rcdStep_raises hb he herr
  have hkept := rcdStep_keepsControl s
  have hend : (rcdStep s).busy = false := by rw [h, raiseDecode_busy]
  have hdone' : (rcdStep s).done = s.done := by rw [h, raiseDecode_done, hdone]
  refine ⟨hend, hdone', hkept.ovr, ?_, ?_, ?_, hkept.cmd, ?_, rcdStep_of_not_busy hend, fun k hk hle => ?_⟩
  · rw [h, raiseDecode_errCode]
    obtain rfl | rfl | rfl := hcode <;> decide
  · rw [h, raiseDecode_errSe]
    exact SyntaxElement.ofNat_code_ne_zero hse
  · rw [h, raiseDecode_resCount, raiseDecode_work]
  · rw [State.irq, hdone', herr, hkept.ieDone, hkept.ieErr, Bool.true_and]
  · have hle' : ¬ k < ({ u with work := w } : State).maxNum := by
      rw [State.maxNum, hmaxN]
      exact (hmax.le.trans hle).not_gt
    simp only [h, raiseDecode_coef, if_neg hle', ← hcoef]

/-! ### What a command has consumed -/

/-- The transactions from `s` to `t` are `log`, the latest first: those answered 0 or 1 are counted, RES_COUNT is the
count once BUSY is 0, all are answered 0 or 1 as long as no error is raised, and an error is END_OF_STREAM exactly when
it comes from an EOS as the last answer (R212). -/
structure Accounted (s t : State) (log : List Transaction) : Prop where
  portLog : t.portLog = log ++ s.portLog
  count : t.work.count = log.countP answered
  resCount : t.busy = false → t.resCount = BitVec.ofNat 32 t.work.count
  noError : t.err = false → ∀ x ∈ log, answered x = true
  error : t.err = true → (t.errCode = 5 ↔ ∃ x rest, log = x :: rest ∧ answered x = false) ∧
    ∀ x ∈ log.drop 1, answered x = true

section
variable {i : Instr} {s t u v : State} {x : Transaction} {log : List Transaction} {code : ErrorCode}

theorem Takes.recorded (h : Takes s x u) : u.portLog = x :: s.portLog ∧ u.work.count = s.work.count := by
  cases h <;> exact ⟨rfl, rfl⟩

theorem exists_unanswered_cons (x : Transaction) (log : List Transaction) :
    (∃ y rest, x :: log = y :: rest ∧ answered y = false) ↔ answered x = false :=
  ⟨fun ⟨_, _, hcons, hy⟩ => (List.cons.inj hcons).1 ▸ hy, fun hx => ⟨x, log, rfl, hx⟩⟩

/-- An error raised after the transaction `x`. -/
theorem Raises.accounted (h : Raises code u v) (hlog : u.portLog = x :: log ++ s.portLog)
    (hcount : u.work.count = (x :: log).countP answered) (hcode : code.code = 5 ↔ answered x = false)
    (hall : ∀ y ∈ log, answered y = true) : Accounted s v (x :: log) := by
  obtain ⟨se, idx, w, -, rfl, -, hw⟩ := h
  refine ⟨by rw [raiseDecode_portLog, hlog], ?_, fun _ => ?_, fun he => ?_, fun _ => ⟨?_, hall⟩⟩
  · rw [raiseDecode_work, ← hcount, ← hw]
  · rw [raiseDecode_resCount, raiseDecode_work]
  · simp at he
  · rw [raiseDecode_errCode, exists_unanswered_cons, hcode]

/-- What follows from the answered transaction `x`. -/
theorem Continues.accounted (h : Continues u v) (hlog : u.portLog = x :: log ++ s.portLog)
    (hcount : u.work.count = (x :: log).countP answered) (he : v.busy = true → v.err = false)
    (hx : answered x = true) (hall : ∀ y ∈ log, answered y = true) : Accounted s v (x :: log) := by
  obtain ⟨hb, hlog', hcount'⟩ | ⟨hcode, h⟩ := h
  · exact ⟨hlog'.trans hlog, hcount'.trans hcount, fun hend => by simp [hb] at hend,
      fun _ => List.forall_mem_cons.mpr ⟨hx, hall⟩, fun herr => by simp [he hb] at herr⟩
  · refine h.accounted hlog hcount ?_ hall
    rw [hx]
    obtain rfl | rfl := hcode <;> decide

theorem Accounted.rcdStep (h : Accounted s t log) (hone : OneEnd t) : ∃ log', Accounted s (rcdStep t) log' := by
  cases hb : t.busy with
  | false =>
    rw [rcdStep_of_not_busy hb]
    exact ⟨log, h⟩
  | true =>
    obtain ⟨-, he⟩ := hone.1 hb
    have hall := h.noError he
    have hend := (rcdStep_oneEnd t hone).1
    obtain hwait | ⟨hcomplete, hcount⟩ | ⟨hu, hx, hgo⟩ | ⟨hu, hx, hraise⟩ := rcdStep_outcome hb
    · rw [hwait]
      exact ⟨log, h⟩
    · rw [hcomplete]
      exact ⟨log, h.portLog, hcount.trans h.count, fun _ => rfl, fun _ => hall, fun herr => by simp [he] at herr⟩
    · obtain ⟨hlog, hcount⟩ := hu.recorded
      refine ⟨_, hgo.accounted (log := log) (hlog.trans (congrArg _ h.portLog)) ?_ (fun hb' => (hend hb').2) hx hall⟩
      rw [List.countP_cons_of_pos hx, ← h.count, ← hcount]
      rfl
    · obtain ⟨hlog, hcount⟩ := hu.recorded
      refine ⟨_, hraise.accounted (log := log) (hlog.trans (congrArg _ h.portLog)) ?_ (iff_of_true rfl hx) hall⟩
      rw [List.countP_cons_of_neg (by simp [hx]), ← h.count, ← hcount]

theorem exec_accounted (hs : s.Ready) (hwf : i.wellFormed = true) (ht : exec i s = .next t) :
    ∃ log, Accounted s t log := by
  rw [exec_of_wellFormed hs hwf] at ht
  cases ht
  obtain ⟨hb, he⟩ := accepted_flags i s
  obtain ⟨-, -, hlog⟩ := accepted_samePorts i s
  have hone : OneEnd (accepted i s) := ⟨fun _ => ⟨(accepted_keepsOutcome i s).done, he.trans hs.2.1⟩,
    fun _ => (accepted_keepsOutcome i s).done⟩
  have hstart : Accounted s (accepted i s) [] :=
    ⟨hlog, startOf_count i _, fun h => by simp [hb] at h, fun _ => nofun, fun h => by simp [he, hs.2.1] at h⟩
  exact (proceed_keeps (P := fun u => OneEnd u ∧ ∃ log, Accounted s u log)
    (fun u ⟨hone, _, h⟩ => ⟨rcdStep_oneEnd u hone, h.rcdStep hone⟩) _ ⟨hone, [], hstart⟩).2

/-- The transactions made and the answers to come, of both ports. -/
def portTotal (s : State) : Nat := s.portLog.length + s.bits.length + s.bins.length

theorem rcdStep_portTotal (s : State) : portTotal (rcdStep s) = portTotal s := by
  unfold portTotal
  obtain ⟨hbits, hbins, hlog⟩ | ⟨-, a, hbits, hbins, hlog⟩ | ⟨-, req, a, hbins, hbits, hlog⟩ := rcdStep_ports s
  · rw [hbits, hbins, hlog]
  · rw [hlog, hbits, hbins, List.length_cons, List.length_cons]
    omega
  · rw [hlog, hbits, hbins, List.length_cons, List.length_cons]
    omega

/-- Every transaction of a command takes one answer (R55, R58). -/
theorem exec_portTotal (ht : exec i s = .next t) : portTotal t = portTotal s := by
  refine exec_keeps ht (fun u ⟨hbits, hbins, hlog⟩ => ?_) fun u hu _ _ => (rcdStep_portTotal u).trans hu
  rw [portTotal, hbits, hbins, hlog, portTotal]

end

/-- Settles O32: every step of the accepted command keeps the account of its transactions, and a transaction
takes one answer. -/
theorem commandConsumesWhatItCounts : Obligations.CommandConsumesWhatItCounts := by
  intro i s t log hs hwf ht hend hlog
  obtain ⟨log', hacc⟩ := exec_accounted hs hwf ht
  obtain rfl : log = log' := List.append_cancel_right (hlog.symm.trans hacc.portLog)
  have hone := exec_oneEnd hs hwf ht
  have htotal := exec_portTotal ht
  refine ⟨(hacc.resCount hend).trans (congrArg _ hacc.count), ?_, fun hd => hacc.noError ?_, hacc.error⟩
  · rw [portTotal, portTotal, hlog, List.length_append] at htotal
    omega
  · by_contra herr
    simp [hone.2 (by simpa using herr)] at hd

/-! ### The ERROR state -/

/-- What every step keeps of a pending error, until it is cleared (R214, R215). -/
def Pending (s t : State) : Prop :=
  SamePorts s t ∧ t.err = true ∧ t.busy = false ∧ t.errCode = s.errCode ∧ t.errSe = s.errSe ∧ t.errIdx = s.errIdx ∧
    t.cmd = s.cmd ∧ t.resCount = s.resCount ∧ SameResults s t

theorem Pending.refl {s : State} (hb : s.busy = false) (he : s.err = true) : Pending s s :=
  ⟨⟨rfl, rfl, rfl⟩, he, hb, rfl, rfl, rfl, rfl, rfl, rfl, rfl, rfl, rfl, rfl, rfl⟩

/-- Every step of the ERROR state: the error stays pending, or it is cleared by a STATUS write with bit 2, by a CTRL
write with bit 31, or by a hard reset (R214, R215). -/
theorem step_of_error {s t : State} (hb : s.busy = false) (he : s.err = true) (h : step s = .next t) :
    Pending s t ∨ ∃ rest,
      (∃ w, s.env.head? = writeEvent 0x008 w ∧ w.getLsbD 2 = true ∧
        t = writeStatus w { s with env := rest, resp := some .done }) ∨
      (∃ w, s.env.head? = writeEvent 0x004 w ∧ w.getLsbD 31 = true ∧
        t = writeCtrl w { s with env := rest, resp := some .done }) ∨
      (s.env.head? = some (.reset true) ∧ t = assertReset { s with env := rest }) := by
  obtain ⟨-, rfl⟩ | ⟨a, rest, henv, ha⟩ | ⟨rest, -, rfl⟩ | ⟨asserted, rest, henv, rfl⟩ := step_cases h
  · rw [runOn_of_not_busy hb, ite_self]
    exact .inl (.refl hb he)
  · obtain ⟨-, rfl⟩ | ⟨-, off, size, -, rfl⟩ | ⟨-, off, size, w, -, -, rfl⟩ | ⟨-, off, size, w, rfl, hok, hw⟩ :=
      hostAccess_cases ha
    · exact .inl (.refl hb he)
    · obtain ⟨r, d, hread⟩ := hostRead_frame off size { s with env := rest }
      rw [hread]
      exact .inl (.refl hb he)
    · exact .inl (.refl hb he)
    · obtain ⟨-, rfl⟩ := accessOk_iff.mp hok
      have hhead : s.env.head? = writeEvent off w := by rw [henv]; rfl
      obtain ⟨rfl, hw⟩ | ⟨rfl, rfl⟩ | ⟨rfl, rfl⟩ | ⟨-, -, -, rfl⟩ := hw
      · cases (writeCmd_of_pending (s := { s with env := rest, resp := some .done }) (.inr he) w).symm.trans hw
        exact .inl (.refl hb he)
      · cases hw : w.getLsbD 31 with
        | false =>
          rw [writeCtrl_of_srst_zero hw]
          exact .inl (.refl hb he)
        | true => exact .inr ⟨rest, .inr (.inl ⟨w, hhead, hw, rfl⟩)⟩
      · cases hw : w.getLsbD 2 with
        | false =>
          simp only [writeStatus_eq, hw, Bool.false_and, Bool.not_false, Bool.and_true, Bool.false_eq_true, if_false]
          exact .inl (.refl hb he)
        | true => exact .inr ⟨rest, .inl ⟨w, hhead, hw, rfl⟩⟩
      · exact .inl (.refl hb he)
  · rw [rcdTurn, rcdStep_of_not_busy (s := { s with env := rest }) hb, ite_self]
    exact .inl (.refl hb he)
  · cases asserted with
    | true => exact .inr ⟨rest, .inr (.inr ⟨by rw [henv]; rfl, rfl⟩)⟩
    | false => exact .inl (.refl hb he)

/-- Settles O58: a pending error stays, or one of the three exits of R214 clears it. -/
theorem errorStateIsSticky : Obligations.ErrorStateIsSticky := by
  rintro s t ⟨hbusy, -⟩ he h
  have hb : s.busy = false := by
    by_contra hb
    simp [(hbusy (by simpa using hb)).1] at he
  obtain ⟨hports, hkept⟩ | ⟨rest, ⟨w, hhead, hw, rfl⟩ | ⟨w, hhead, hw, rfl⟩ | ⟨hhead, rfl⟩⟩ := step_of_error hb he h
  · exact ⟨hports, .inl hkept⟩
  · rw [writeStatus_eq]
    refine ⟨⟨rfl, rfl, rfl⟩, .inr ⟨?_, hb, ?_, ?_, ?_, .inl ⟨w, hhead, hw, rfl⟩⟩⟩ <;> simp [he, hw]
  · refine ⟨writeCtrl_samePorts w _, .inr ?_⟩
    rw [writeCtrl_of_srst_one hw]
    exact ⟨rfl, rfl, rfl, rfl, rfl, .inr (.inl ⟨w, hhead, hw⟩)⟩
  · exact ⟨⟨rfl, rfl, rfl⟩, .inr ⟨rfl, rfl, rfl, rfl, rfl, .inr (.inr hhead)⟩⟩

end Sys2Proof.Machine

/-! ## Where the port in use stops answering -/

namespace Sys2Proof.Machine

open Sys2Proof.Claims

section
variable {α : Type} {port : State → List Answer} {p : Parser α} {Q : α → State → Prop} {i : Instr} {s t : State}
  {n : Nat} {log : List Transaction}

/-- A run on its own ends in a state that no internal step moves (R251). -/
theorem rcdStep_runOn (s : State) : rcdStep (runOn s) = runOn s := rcdStep_rcdSteps (Nat.lt_succ_self _)

/-- With no event to come, a state out of reset that no internal step moves is one that no step moves. -/
theorem step_of_rest (hr : s.inReset = false) (henv : s.env = []) (hrest : rcdStep s = s) : step s = .next s := by
  have hrun : runOn s = s := rcdSteps_of_fixed hrest _
  simp only [step, nextEvent, henv, hr, Bool.false_eq_true, if_false, hrun]

/-- Where the pseudocode waits, the run has made its transactions and used every answer of the port (R251). -/
theorem reaches_of_waiting (h : Follows port p Q s) (hp : p (port s) = .waiting log) :
    Reaches port log [] s (runOn s) := by
  rw [Follows, hp] at h
  obtain ⟨hreach, -, hrest⟩ := h
  rwa [runOn_eq_of_fixed hrest]

/-- A legal command that is BUSY after its run waits there (R251). -/
theorem waits_of_busy (hs : s.Ready) (henv : s.env = []) (hwf : i.wellFormed = true) (ht : exec i s = .next t)
    (hframe : CommandFrame i n s t) (hb : t.busy = true) (hlog : t.portLog = log.reverse ++ s.portLog) :
    Waits i n log s t := by
  obtain ⟨hdone, herr⟩ := (exec_oneEnd hs hwf ht).1 hb
  obtain ⟨-, -, hreset', henv', -, hcoef, -, hkept⟩ := hframe
  rw [exec_ready hs henv hwf] at ht
  cases ht
  obtain ⟨hbusy, he, hreset⟩ := hs
  obtain ⟨hovr, hcmd⟩ := hkept hbusy he
  exact ⟨hb, hdone, herr, hovr, hcmd, hlog,
    step_of_rest (hreset'.trans hreset) (henv'.trans henv) (rcdStep_runOn _), hcoef⟩

end

/-- Settles O13: the run of the accepted command follows the pseudocode up to the end of the answers, and rests. -/
theorem cavlcBlockWaitsForBits : Obligations.CavlcBlockWaitsForBits := by
  intro maxN nC s log hs henv hlegal hparse
  have hfollows := acceptedCavlc_follows s hlegal
  have hexec := exec_ready (i := .cavlcBlock maxN nC) hs henv hlegal
  obtain ⟨hframe, hbins, -⟩ := cavlcBlockFrame maxN nC s _ hexec
  obtain ⟨hbits, hlog, -⟩ := reaches_of_waiting hfollows hparse
  exact ⟨_, hexec, waits_of_busy hs henv hlegal hexec hframe (runOn_of_waiting hfollows hparse) hlog, hbits, hbins⟩

/-- Settles O25: the run of the accepted command follows the pseudocode up to the end of the answers, and rests. -/
theorem cabacBlockWaitsForBins : Obligations.CabacBlockWaitsForBins := by
  intro maxN cat s log hs henv hlegal hparse
  obtain ⟨-, hbins, hlog⟩ := accepted_samePorts (.cabacBlock maxN cat) s
  have hfollows := accepted_follows cat s hlegal
  rw [← hbins] at hparse
  have hexec := exec_ready (i := .cabacBlock maxN cat) hs henv hlegal
  obtain ⟨hframe, hbits, -⟩ := cabacBlockFrame maxN cat s _ hexec
  obtain ⟨hrest, hlog', -⟩ := reaches_of_waiting hfollows hparse
  rw [hlog] at hlog'
  exact ⟨_, hexec, waits_of_busy hs henv hlegal hexec hframe (runOn_of_waiting hfollows hparse) hlog', hrest, hbits⟩

/-! ### Enough answers -/

section
variable {i : Instr} {s t : State}

/-- A BUSY command that no internal step moves is asking a port. -/
theorem ask_ne_nothing_of_rest (hb : s.busy = true) (hp : s.work.phaseOk) (hrest : rcdStep s = s) :
    s.work.ask ≠ .nothing := by
  intro hask
  have hend : (rcdStep s).busy = false := by
    cases hph : s.work.phase <;> simp only [Work.ask, hph, reduceCtorEq] at hask
    case idle =>
      rw [Work.phaseOk, hph] at hp
      exact hp.elim
    case cavlcFinish =>
      rw [rcdStep_of_cavlcFinish hb hph]
      rfl
    case cabacFinish =>
      rw [rcdStep_of_cabacFinish hb hph]
      rfl
    case zeroFinish =>
      rw [rcdStep_of_zeroFinish hb hph]
      rfl
  rw [hrest, hb] at hend
  cases hend

/-- A phase that asks a port has its request still within the budget (R250). -/
theorem Work.budget_pos {w : Work} (hp : w.phaseOk) (hc : w.codeOk) (hask : w.ask ≠ .nothing) : 0 < w.budget := by
  unfold Work.phaseOk at hp
  unfold Work.codeOk at hc
  unfold Work.ask at hask
  unfold Work.budget
  cases hph : w.phase <;> simp only [hph, ne_eq, not_true_eq_false, Work.walkOk] at hp hc hask ⊢ <;> omega

/-- A command that still waits has consumed less than its bound (R250, R251). -/
theorem count_lt_of_waits (hs : s.Ready) (henv : s.env = []) (hwf : i.wellFormed = true) (ht : exec i s = .next t)
    (hb : t.busy = true) : t.work.count < commandBound i := by
  have hsound := (proceed_accepted_lands (F := False) (B := some (commandBound i)) (s := s) hwf nofun
    fun b hB => by cases hB; exact le_rfl).1
  have hproceed := exec_of_wellFormed hs hwf
  rw [exec_ready hs henv hwf] at ht hproceed
  cases ht
  rw [← Host.Outcome.next.inj hproceed] at hsound
  obtain ⟨hp, -, hwithin⟩ := hsound.phase hb
  obtain ⟨hc, hle⟩ := hwithin _ rfl
  have hpos := Work.budget_pos hp hc (ask_ne_nothing_of_rest hb hp (rcdStep_runOn _))
  omega

/-- A command that still waits has taken fewer answers than its bound, of both ports together. -/
theorem answers_lt_of_waits (hs : s.Ready) (henv : s.env = []) (hwf : i.wellFormed = true)
    (ht : exec i s = .next t) (hb : t.busy = true) :
    s.bits.length + s.bins.length < commandBound i + t.bits.length + t.bins.length := by
  obtain ⟨log, hacc⟩ := exec_accounted hs hwf ht
  have hall := List.countP_eq_length.mpr (hacc.noError ((exec_oneEnd hs hwf ht).1 hb).2)
  have hlt := count_lt_of_waits hs henv hwf ht hb
  have htotal := exec_portTotal ht
  rw [hacc.count, hall] at hlt
  rw [portTotal, portTotal, hacc.portLog, List.length_append] at htotal
  omega

end

/-- Settles O34: a block or an error of the pseudocode ends the command, and it cannot wait, since a command that waits
has used all answers of its port and consumed less than its bound. -/
theorem commandsTerminate : Obligations.CommandsTerminate := by
  intro i s hs henv hwf hbits hbins
  cases i with
  | cavlcBlock maxN nC =>
    cases hparse : pCavlc maxN.toNat nC.toInt s.bits with
    | got b log rest =>
      obtain ⟨t, ht, ⟨hb, hdone, herr, -⟩, -⟩ := cavlcBlockCompletes maxN nC s b log rest hs henv hwf hparse
      exact ⟨t, ht, hb, .inl ⟨hdone, herr⟩⟩
    | error c se idx log rest =>
      obtain ⟨t, ht, ⟨hb, hdone, herr, -⟩, -⟩ := cavlcBlockRaises maxN nC s c se idx log rest hs henv hwf hparse
      exact ⟨t, ht, hb, .inr ⟨herr, hdone⟩⟩
    | waiting log =>
      obtain ⟨t, ht, ⟨hb, -⟩, hused, hother⟩ := cavlcBlockWaitsForBits maxN nC s log hs henv hwf hparse
      have hlt := answers_lt_of_waits hs henv hwf ht hb
      rw [hused, hother, List.length_nil] at hlt
      omega
  | cabacBlock maxN cat =>
    cases hparse : pCabac ⟨maxN, cat⟩ s.bins with
    | got b log rest =>
      obtain ⟨t, ht, ⟨hb, hdone, herr, -⟩, -⟩ := cabacBlockCompletes maxN cat s b log rest hs henv hwf hparse
      exact ⟨t, ht, hb, .inl ⟨hdone, herr⟩⟩
    | error c se idx log rest =>
      obtain ⟨t, ht, ⟨hb, hdone, herr, -⟩, -⟩ := cabacBlockRaises maxN cat s c se idx log rest hs henv hwf hparse
      exact ⟨t, ht, hb, .inr ⟨herr, hdone⟩⟩
    | waiting log =>
      obtain ⟨t, ht, ⟨hb, -⟩, hused, hother⟩ := cabacBlockWaitsForBins maxN cat s log hs henv hwf hparse
      have hlt := answers_lt_of_waits hs henv hwf ht hb
      rw [hused, hother, List.length_nil] at hlt
      omega
  | zeroBlock maxN =>
    have hlegal : 1 ≤ maxN.toNat ∧ maxN.toNat ≤ 64 := by simpa [Instr.wellFormed, zeroLegal] using hwf
    obtain ⟨t, ht, hb, hdone, herr, -⟩ := zeroBlockCompletes maxN s hs henv hlegal.1 hlegal.2
    exact ⟨t, ht, hb, .inl ⟨hdone, herr⟩⟩

end Sys2Proof.Machine

/-! ## The reset input -/

namespace Sys2Proof.Machine

open Sys2Proof.Claims

section
variable {s : State} {rest : List Event}

/-- A change of the reset input is the next event (R230). -/
theorem step_of_reset {asserted : Bool} (henv : s.env = .reset asserted :: rest) :
    step s = .next (resetInput asserted { s with env := rest }) := by
  rw [step, nextEvent, henv]

/-- CTRL reads 0 while both enables are 0 (R22). -/
theorem ctrlWord_eq_zero (hdone : s.ieDone = false) (herr : s.ieErr = false) : s.ctrlWord = 0 := by
  simp [State.ctrlWord, flagBit, hdone, herr]

/-- The register values of R230's table: `clearRegisters`, and the enables. -/
theorem assertReset_registersAtReset (s : State) : RegistersAtReset (assertReset s) := by
  obtain ⟨hstatus, hinfo, hcmd, htc, ht1, htz, hnum, hcbf, hcount⟩ := clearRegisters_registers s
  exact ⟨ctrlWord_eq_zero rfl rfl, hstatus, hcmd, hinfo, htc, ht1, htz, hnum, hcbf, hcount, rfl⟩

/-- The release of the reset input, the next event, changes no register (R230). -/
theorem resetInput_false_registersAtReset (h : RegistersAtReset s) :
    RegistersAtReset (resetInput false { s with env := rest }) := h

end

/-- Settles O49: each clause is the event that is next, and asserting it clears BUSY and ERR. -/
theorem hardReset : Obligations.HardReset := by
  refine ⟨fun s rest henv => ?_, fun s rest hr => ⟨fun henv => ?_, fun henv => ?_, fun a henv => ?_, fun henv => ?_⟩,
    fun s t u rest henv ht hu => ?_⟩
  · exact ⟨_, step_of_reset henv, assertReset_registersAtReset _, rfl, ⟨rfl, rfl, rfl⟩, rfl⟩
  · simp only [step, nextEvent, henv, hr, if_true]
  · simp only [step, nextEvent, henv, rcdTurn, hr, if_true]
  · simp only [step, nextEvent, henv, hostAccess, hr, if_true]
  · exact step_of_reset henv
  · cases (step_of_reset henv).symm.trans ht
    cases (step_of_reset (rest := rest) rfl).symm.trans hu
    exact ⟨⟨rfl, rfl, rfl⟩, resetInput_false_registersAtReset (assertReset_registersAtReset _), rfl⟩

/-- Settles O50: the registers are closed values, and out of BUSY no step moves the state. -/
theorem resetStateIsIdle : Obligations.ResetStateIsIdle := by
  refine ⟨?_, ⟨rfl, rfl, rfl⟩, rfl, step_of_rest rfl rfl (rcdStep_of_not_busy rfl)⟩
  unfold RegistersAtReset
  decide

end Sys2Proof.Machine
